-- ==== Sys2Proof/Word.lean ====
section
/-! DEFINITION. The plainest types of the Nodita 412 model: words, checks, positions, step indexes. -/

namespace Sys2Proof

/-- A word of the bench line: sixteen bits, bit 15 sent first (R75). -/
abbrev Word := BitVec 16

/-- The 8-bit check that follows each word (R77). -/
abbrev Check := BitVec 8

/-- A position of the bench line, 0..31 (R81). -/
abbrev Position := BitVec 5

/-- A step index k of 1..16, held as k − 1, which is how R172 carries it in station frames. -/
abbrev StepIx := Fin 16

/-- One group of the line: a word and the check read after it (R75). -/
abbrev Group := Word × Check

end Sys2Proof
end

