-- ==== Sys2Proof/Syntax.lean ====
section
/-! DEFINITION. The commands of the Nodita 412: one constructor of `Instr` for each row of spec/opcode_table.json, and
the types of their operands.

`after` is the number of µs that pass on the station's time base between the command before it and this one
(DESIGN CHOICE, log 1): the table gives its rows no operands, and R1 makes the instant of an event the value of the
time base at the event. The twelve rows that are local events have no `after`: each happens at its own due instant. -/

namespace Sys2Proof

/-- The level of a pin. -/
inductive Level
  | low
  | high
  deriving DecidableEq, Repr

/-- Meter edge of the plan (R2, R20). -/
inductive Edge
  | rising
  | falling
  deriving DecidableEq, Repr

/-- The clamp as CLMP shows it: low is closed on a meter, high is open (R151). -/
inductive ClampLevel
  | closed
  | opened
  deriving DecidableEq, Repr

/-- The verdicts of a result record (R120, R173). -/
inductive Verdict
  | none
  | pass
  | fail
  | noref
  | overrange
  | invalid
  | incomplete
  | void
  deriving DecidableEq, Repr

/-- The reason of a PARKED frame (R82). -/
inductive ParkedReason
  | clampOpen
  | headFault
  deriving DecidableEq, Repr

/-- The phase a LAPSE names (R82). -/
inductive LapsePhase
  | gather
  | measure
  deriving DecidableEq, Repr

/-- The five record kinds of QUERY and REPLY (R163). -/
inductive RecordKind
  | status
  | result
  | closure
  | selftest
  | roster
  deriving DecidableEq, Repr

/-- The target selector of a console frame (R83). -/
structure Selector where
  value : Position
  mask : Position
  deriving DecidableEq, Repr

/-- The payload of a PLAN frame, as carried, before any clamping (R172). -/
structure PlanPayload where
  number : BitVec 16
  cref : BitVec 32
  edge : Edge
  /-- in 0.1 ms -/
  filter : BitVec 8
  /-- in s -/
  gather : BitVec 16
  windowFirst : BitVec 8
  windowLast : BitVec 8
  deriving DecidableEq, Repr

/-- The payload of a STEP frame, as carried, before any clamping (R172). -/
structure StepPayload where
  kind : BitVec 4
  allowance : BitVec 4
  loadPoint : BitVec 8
  cmut : BitVec 32
  gate : BitVec 16
  /-- two's complement, ppm -/
  lower : BitVec 32
  /-- two's complement, ppm -/
  upper : BitVec 32
  /-- in s -/
  extension : BitVec 16
  threshold : BitVec 8
  /-- D in ms -/
  duration : BitVec 24
  /-- in s -/
  deadline : BitVec 16
  deriving DecidableEq, Repr

/-- A station frame without its sender: what the outbound queue offers and the transmit copy holds (R85, R86). A REPLY
holds its payload words, read at the start of the attempt (R164). -/
inductive StationFrame
  | present (plan : BitVec 16)
  | ready (k : StepIx)
  | hold (k : StepIx)
  /-- `error` is present in the two-word form only, 21 bits of two's complement (R172) -/
  | done (k : StepIx) (verdict : Verdict) (attempt : BitVec 4) (error : Option (BitVec 21))
  | lapse (k : StepIx) (phase : LapsePhase)
  | parked (reason : ParkedReason)
  | reply (payload : List Word)
  deriving DecidableEq, Repr

/-- Whose start bit stands on the line (R76, R86; log 8). -/
inductive StartBit
  /-- the one that opens this station's own attempt; `arbRead` is the arbitration field as the station reads it back (R87),
  `restMatches` whether every later bit reads back as sent (R88) -/
  | own (arbRead : BitVec 9) (restMatches : Bool)
  /-- another party's, which this station did not send (R86) -/
  | peer
  deriving DecidableEq, Repr

/-- The commands, one constructor for each row of spec/opcode_table.json, in the table's order. -/
inductive Instr
  /-- POWER_ON: supply applied, with the levels the straps, the clamp and MTP have then (R161, R93, R17). -/
  | powerOn (straps : Position) (clamp : ClampLevel) (mtp : Level)
  /-- PIN_RESET: RSTN returns high, with the levels the pins have then (R161, R93, R17). -/
  | pinReset (straps : Position) (clamp : ClampLevel) (mtp : Level)
  /-- JOINING_END (R80). -/
  | joiningEnd (after : Nat)
  /-- MTP_ACTIVE_CHANGE (R3, R4). -/
  | mtpActiveChange (after : Nat)
  /-- MTP_INACTIVE_CHANGE (R3, R4). -/
  | mtpInactiveChange (after : Nat)
  /-- PULSE_ACCEPTED (R6), at the acceptance instant. -/
  | pulseAccepted
  /-- FILTER_REARM (R4), when the release has held for W. -/
  | filterRearm
  /-- REFERENCE_EDGE (R12). -/
  | referenceEdge (after : Nat)
  /-- REFERENCE_WAIT_EXPIRY (R114). -/
  | referenceWaitExpiry
  /-- GATHER_TIMER_EXPIRY (R118). -/
  | gatherTimerExpiry
  /-- STEP_DEADLINE_EXPIRY (R115). -/
  | stepDeadlineExpiry
  /-- MUSTER_WINDOW_EXPIRY (R100). -/
  | musterWindowExpiry
  /-- DURATION_END (R63). -/
  | durationEnd
  /-- PRESS_DWELL_END (R140). -/
  | pressDwellEnd
  /-- PARKED_DWELL_END (R152). -/
  | parkedDwellEnd
  /-- LOOP_BURST_START (R15). -/
  | loopBurstStart
  /-- LOOP_BURST_END (R15). -/
  | loopBurstEnd
  /-- WAKING_END (R155). -/
  | wakingEnd
  /-- CLAMP_CLOSING (R151, R152). -/
  | clampClosing (after : Nat)
  /-- CLAMP_OPENING (R151, R157). -/
  | clampOpening (after : Nat)
  /-- ATTEMPT_START (R86): a start bit on the line; `groups` is how many groups the frame comes to have there, so that its
  end slot can be told (R76). -/
  | attemptStart (after : Nat) (start : StartBit) (groups : Nat)
  /-- FRAME_ABORTED (R89): an abort mark stands in the end interval; `groups` is what this station received (R78). -/
  | frameAborted (after : Nat) (groups : List Group)
  /-- MALFORMED_FRAME (R79, R82): a frame without an abort mark that brings the station no command; `groups` is what this
  station received of it (R78; log 30). -/
  | malformedFrame (after : Nat) (groups : List Group)
  /-- PLAN (R24). -/
  | plan (after : Nat) (sel : Selector) (payload : PlanPayload)
  /-- STEP (R29). -/
  | step (after : Nat) (sel : Selector) (payload : StepPayload)
  /-- MUSTER (R97). -/
  | muster (after : Nat) (sel : Selector) (plan : BitVec 16) (count : BitVec 5)
  /-- RUN (R101). -/
  | run (after : Nat) (sel : Selector) (plan : BitVec 16) (first : BitVec 5)
  /-- HALT (R131). -/
  | halt (after : Nat) (sel : Selector)
  /-- RESET with scope RUN (R133). -/
  | resetRun (after : Nat) (sel : Selector)
  /-- RESET with scope ALL (R37). -/
  | resetAll (after : Nat) (sel : Selector)
  /-- CLOSE (R136). -/
  | close (after : Nat) (sel : Selector)
  /-- RELEASE (R147). -/
  | release (after : Nat) (sel : Selector)
  /-- QUERY for STATUS (R166). -/
  | queryStatus (after : Nat) (sel : Selector)
  /-- QUERY for RESULT of a slot (R167). -/
  | queryResult (after : Nat) (sel : Selector) (slot : BitVec 5)
  /-- QUERY for CLOSURE (R168). -/
  | queryClosure (after : Nat) (sel : Selector)
  /-- QUERY for SELFTEST (R169). -/
  | querySelftest (after : Nat) (sel : Selector)
  /-- QUERY for ROSTER (R170). -/
  | queryRoster (after : Nat) (sel : Selector)
  /-- SETTLED (R110). -/
  | settled (after : Nat) (loadPoint : BitVec 8)
  /-- DISTURBED (R125). -/
  | disturbed (after : Nat)
  /-- PRESENT (R96). -/
  | present (after : Nat) (source : Position) (plan : BitVec 16)
  /-- READY (R112). -/
  | ready (after : Nat) (source : Position) (k : StepIx)
  /-- HOLD (R116). -/
  | hold (after : Nat) (source : Position) (k : StepIx)
  /-- DONE (R121, R122). -/
  | done (after : Nat) (source : Position) (k : StepIx) (verdict : Verdict) (attempt : BitVec 4)
      (error : Option (BitVec 21))
  /-- LAPSE of the gather phase (R119). -/
  | lapseGather (after : Nat) (source : Position) (k : StepIx)
  /-- LAPSE of the measure phase (R124). -/
  | lapseMeasure (after : Nat) (source : Position) (k : StepIx)
  /-- PARKED (R105). -/
  | parked (after : Nat) (source : Position) (reason : ParkedReason)
  /-- REPLY (R165), with its payload words (R173). -/
  | reply (after : Nat) (source : Position) (payload : List Word)
  /-- RSTN_HELD_LOW (R94). -/
  | rstnHeldLow (after : Nat)
  deriving DecidableEq, Repr

end Sys2Proof
end

