-- ==== Sys2Proof/Decode.lean ====
section
/-! DEFINITION. The command that a word of spec/opcode_table.json spells. Its 48 rows give no bits: a command is an event
at the pins, a local event or a whole taken frame, so no word spells one (log 27). The words of frames are read by
`takenCommand` in Machine/Layout.lean. -/

namespace Sys2Proof

/-- No row of the table gives bits. -/
def decodeTableWord (_nbits _w : Nat) : Option Instr := none

end Sys2Proof
end

