-- ==== Sys2Proof/Config.lean ====
section
/-! DEFINITION. What is fixed for the machine: the times and limits of the manual, and the one free value. Times are
in µs of the time base (R1). -/

namespace Sys2Proof.Config

/-- FREE VALUE (log 4): which of several local events due at one instant is taken first. The manual says either may
be. Applied to the count of draws so far; nothing can be proved of its values. -/
opaque freeOrder : Nat → Nat

/-- One millisecond. -/
def millisecond : Nat := 1_000

/-- One second. -/
def second : Nat := 1_000_000

/-- One step of the glitch filter width, 0.1 ms (R2). -/
def widthUnit : Nat := 100

/-- Saturation of the period measure (R7). -/
def periodMax : Nat := 4_294_967_295

/-- Saturation of the reference counter (R12). -/
def counterMax : Nat := 4_294_967_295

/-- Default and self-test filter width, 0.5 ms, in tenths of a ms (R2). -/
def defaultWidth : Nat := 5

/-- Delay of the loop burst within WAKING, 50 ms (R15, R153). -/
def burstDelay : Nat := 50_000

/-- Length of the loop burst, 80 ms (R15). -/
def burstLength : Nat := 80_000

/-- Spacing of the loop pulses, 4 ms (R15). -/
def loopPeriod : Nat := 4_000

/-- High time of a loop pulse, 2 ms (R15). -/
def loopHigh : Nat := 2_000

/-- Length of WAKING, 150 ms (R153). -/
def wakingLength : Nat := 150_000

/-- The parked dwell, 500 ms (R152). -/
def parkedDwell : Nat := 500_000

/-- The reference wait, 100 ms (R13, R113). -/
def referenceWait : Nat := 100_000

/-- The muster window, 5 s (R97). -/
def musterWindow : Nat := 5_000_000

/-- One press dwell, 400 ms (R140, R141). -/
def pressDwell : Nat := 400_000

/-- The longest the press is energised, 1,200 ms (R140, R141). -/
def pressLimit : Nat := 1_200_000

/-- The gap after a frame, three bit times of 8 µs (R75, R76). -/
def gapLength : Nat := 24

/-- One bit time on the bench line, 8 µs (R75). -/
def bitTime : Nat := 8

/-- Bit times of one group: start bit, word, check (R75). -/
def groupBits : Nat := 25

/-- Bit times of the end slot and the end interval after a frame's last group (R76). -/
def endBits : Nat := 3

/-- The recessive bit times that end JOINING, 240 µs (R80, R160). -/
def joiningLength : Nat := 240

/-- The margin of the hold prediction, 1,000 ms (R51). -/
def holdMargin : Nat := 1_000_000

/-- The largest magnitude of an error value in ppm (R47). -/
def errorLimit : Nat := 999_999

/-- Parts per million. -/
def million : Nat := 1_000_000

/-- Failed attempts that put a station in LINK-FAULT (R89, R91). -/
def maxFails : Nat := 16

/-- Restarts of one step (R125, R127). -/
def maxRestarts : Nat := 3

/-- Saturation of the attempt count of a result record (R114). -/
def maxAttempt : Nat := 15

/-- Saturation of the timed step count (R63). -/
def maxCount : Nat := 65_535

/-- Saturation of the loop count of the self-test (R154). -/
def maxLoopCount : Nat := 255

/-- Loop pulses of a burst, and the count a passing self-test finds (R15, R155). -/
def loopPulses : Nat := 20

/-- Shortest period of a passing self-test (R155). -/
def selfTestShortest : Nat := 3_800

/-- Longest period of a passing self-test (R155). -/
def selfTestLongest : Nat := 4_200

/-- Saturation of the age of the self-test record in s (R159). -/
def maxAge : Nat := 65_535

/-- Bound of the local events taken within one passage of time. It is a bound of the model: at most two deadline
expiries and one each of the other eleven local events can fall in one passage, for no frame comes in it (log 2). -/
def eventFuel : Nat := 64

end Sys2Proof.Config
end

