-- ==== Sys2Proof/Machine/State.lean ====
section
/-! DEFINITION. The state of one Nodita 412, block by block as the manual's chapters list it, the reasons a step may
stop, and the machine right after power-on.

Times are instants of the station's time base in µs, held as Nat (log 5). A field that the manual calls absent is an
Option. Views that the manual defines by other state (the plan length L, the in-force setting, the pins LOOP and PRSS)
are functions in Ops.lean (log 19). -/

namespace Sys2Proof.Machine

/-! ## Pulse front end (chapter 1) -/

/-- Edge and filter width W in tenths of a ms (R2). -/
structure FilterSetting where
  edge : Edge
  width : Nat
  deriving DecidableEq, Repr

/-- Progress of the glitch filter (R3, R4). -/
inductive InputState
  | waitEdge
  | qualify
  | waitRelease
  | qualifyRelease
  deriving DecidableEq, Repr

/-- The reference counter (R11, R12). -/
structure RefCounter where
  counting : Bool
  value : Nat
  overrange : Bool
  deriving DecidableEq, Repr

/-- The loop generator (R15). -/
inductive LoopGen
  | off
  | burst (start : Nat)
  deriving DecidableEq, Repr

structure FrontEnd where
  /-- R1 -/
  timeBase : Nat
  /-- the level of MTP -/
  mtp : Level
  /-- R2 -/
  planSetting : FilterSetting
  input : InputState
  /-- R3 -/
  candidate : Option Nat
  /-- the time of the change to inactive that is being qualified (R4) -/
  releaseTime : Option Nat
  /-- R7 -/
  lastPulse : Option Nat
  /-- R7 -/
  lastPeriod : Option Nat
  counter : RefCounter
  /-- the next-edge request is PENDING (R13) -/
  nextEdge : Bool
  /-- R14 -/
  refSeen : Bool
  loop : LoopGen
  deriving DecidableEq, Repr

/-! ## Plan store (chapter 2) -/

/-- The plan-wide fields, present together while the plan number is not 0 (R20). -/
structure PlanFields where
  cref : Nat
  edge : Edge
  /-- in 0.1 ms -/
  width : Nat
  /-- gather limit in s -/
  gather : Nat
  deriving DecidableEq, Repr

/-- The fields of an ERROR slot (R32, R33). -/
structure ErrorFields where
  cmut : Nat
  gate : Nat
  lower : Int
  upper : Int
  /-- hold extension in s -/
  extension : Nat
  deriving DecidableEq, Repr

/-- The fields of a CREEP or START slot (R34). -/
structure TimedFields where
  /-- D in ms -/
  duration : Nat
  threshold : Nat
  deriving DecidableEq, Repr

/-- The kind of a slot with the fields that belong to that kind alone (R31, R32, R34). -/
inductive StepBody
  | error (f : ErrorFields)
  | creep (f : TimedFields)
  | start (f : TimedFields)
  | unknown
  deriving DecidableEq, Repr

/-- A step record (chapter 2, The step table). -/
structure StepRecord where
  body : StepBody
  valid : Bool
  loadPoint : Nat
  /-- in s -/
  baseDeadline : Nat
  allowance : Nat
  deriving DecidableEq, Repr

/-- The sixteen slots; none is EMPTY (R27). -/
abbrev StepTable := Vector (Option StepRecord) 16

structure PlanStore where
  number : BitVec 16
  fields : Option PlanFields
  windowFirst : Nat
  windowLast : Nat
  cursor : Nat
  overrun : Bool
  refused : Bool
  sessionOpen : Bool
  slots : StepTable
  deriving DecidableEq, Repr

/-! ## Error gate (chapter 3) -/

inductive GateState
  | idle
  | armed
  | waitingOpen
  | opened
  | closed
  deriving DecidableEq, Repr

/-- Copied at arming (R39). -/
structure GateSettings where
  cref : Nat
  cmut : Nat
  gate : Nat
  lower : Int
  upper : Int
  deriving DecidableEq, Repr

structure ErrorGate where
  state : GateState
  step : Option StepIx
  settings : Option GateSettings
  n : Option Nat
  r : Option Nat
  overrange : Bool
  error : Option Int
  clamped : Bool
  verdict : Option Verdict
  holdLatch : Bool
  deriving DecidableEq, Repr

/-! ## Timed step unit (chapter 4) -/

inductive TimedState
  | idle
  | armed
  | counting
  | trailing
  | ended
  deriving DecidableEq, Repr

inductive TimedKind
  | creep
  | start
  deriving DecidableEq, Repr

/-- Copied at arming (R61). -/
structure TimedSettings where
  kind : TimedKind
  duration : Nat
  threshold : Nat
  deriving DecidableEq, Repr

structure TimedUnit where
  state : TimedState
  step : Option StepIx
  settings : Option TimedSettings
  startTime : Option Nat
  durationEnd : Option Nat
  count : Option Nat
  verdict : Option Verdict
  /-- in ms -/
  elapsed : Option Nat
  deriving DecidableEq, Repr

/-! ## Line interface (chapter 5) -/

inductive LinkState
  | normal
  | linkFault
  | duplicate
  | strapFault
  deriving DecidableEq, Repr

inductive LinePhase
  | joining
  | idle
  | frame
  | endInterval
  | gap
  deriving DecidableEq, Repr

/-- The words received so far in the current frame, and the bad mark (R78). -/
structure ReceiveRecord where
  words : List Word
  bad : Bool
  deriving DecidableEq, Repr

/-- An outbound queue entry (R85): its frame, its failed-attempt count, and whether its frame, not replaced since, is
the one in the transmit copy (R90; log 11). -/
structure Entry (α : Type) where
  frame : α
  fails : Nat
  offered : Bool
  deriving DecidableEq, Repr

/-- The contents of a pending DONE (R120). -/
structure DoneFrame where
  step : StepIx
  verdict : Verdict
  attempt : Nat
  error : Option Int
  deriving DecidableEq, Repr

/-- The step and phase of a pending LAPSE. -/
structure LapseFrame where
  step : StepIx
  phase : LapsePhase
  deriving DecidableEq, Repr

/-- What a REPLY entry names (R85, R163). -/
structure ReplyRequest where
  kind : RecordKind
  slot : BitVec 5
  deriving DecidableEq, Repr

/-- The outbound queue: at most one entry of each station kind (R85), in the order of service (R82). -/
structure OutQueue where
  lapse : Option (Entry LapseFrame)
  parked : Option (Entry ParkedReason)
  done : Option (Entry DoneFrame)
  ready : Option (Entry StepIx)
  hold : Option (Entry StepIx)
  present : Option (Entry (BitVec 16))
  reply : Option (Entry ReplyRequest)
  deriving DecidableEq, Repr

inductive AttemptRole
  | none
  | contending
  | sending
  | aborting
  deriving DecidableEq, Repr

structure LineInterface where
  strap : Position
  link : LinkState
  phase : LinePhase
  /-- when the end slot of the frame on the line comes (R76; log 9) -/
  endSlot : Option Nat
  /-- when the gap after the latest frame ends (R76; log 9) -/
  gapEnd : Option Nat
  /-- since when a JOINING station has read the line recessive (R80; log 29) -/
  recessiveSince : Nat
  receive : ReceiveRecord
  queue : OutQueue
  transmit : Option StationFrame
  role : AttemptRole
  /-- this station drove the abort mark in the latest end interval (R78, R88; log 10) -/
  abortDriven : Bool
  deriving DecidableEq, Repr

/-! ## Step coordinator (chapters 6 and 7) -/

/-- The run states; the index of GATHERING to SUSPENDED is the step in hand (R166). -/
inductive RunState
  | idle
  | loaded
  | enrolled
  | gathering
  | measuring
  | reported
  | suspended
  | closing
  | closed
  deriving DecidableEq, Repr

inductive SourceView
  | unknown
  | settled (loadPoint : Nat)
  | disturbed
  deriving DecidableEq, Repr

inductive RunVerdict
  | pass
  | fail
  deriving DecidableEq, Repr

inductive PartialMark
  | none
  | partly
  | late
  deriving DecidableEq, Repr

/-- The values of a result record, each present or absent (R120, R167). -/
structure ResultValues where
  n : Option Nat
  r : Option Nat
  error : Option Int
  clamped : Bool
  lastPeriod : Option Nat
  count : Option Nat
  elapsed : Option Nat
  deriving DecidableEq, Repr

structure ResultRecord where
  verdict : Verdict
  attempt : Nat
  values : ResultValues
  mark : PartialMark
  quiet : Bool
  deriving DecidableEq, Repr

abbrev ResultTable := Vector ResultRecord 16

inductive EnrollStage
  | none
  | remembered
  | awaiting
  deriving DecidableEq, Repr

/-- Plan number and step count of a remembered MUSTER (R98). -/
structure MusterCall where
  plan : BitVec 16
  count : BitVec 5
  deriving DecidableEq, Repr

inductive HomeState
  | loaded
  | closing
  deriving DecidableEq, Repr

inductive StrikeReason
  | clampOpen
  | headFault
  | halt
  | reset
  | gatherLapse
  deriving DecidableEq, Repr

inductive Standing
  | active
  | struck (reason : StrikeReason)
  deriving DecidableEq, Repr

inductive Phase
  | waiting
  | ready
  | reported (verdict : Verdict)
  deriving DecidableEq, Repr

/-- A member entry (R95). -/
structure Member where
  position : Position
  standing : Standing
  phase : Phase
  deriving DecidableEq, Repr

structure Coordinator where
  run : RunState
  step : Option StepIx
  source : SourceView
  /-- end time of the running gather timer -/
  gatherEnd : Option Nat
  /-- end time of the running reference wait -/
  waitEnd : Option Nat
  deadline : Option Nat
  /-- the expiry mark -/
  expired : Bool
  /-- the suspension mark -/
  suspension : Bool
  holds : Nat
  restarts : Nat
  runHolds : Nat
  runRestarts : Nat
  results : ResultTable
  verdict : Option RunVerdict
  stage : EnrollStage
  remembered : Option MusterCall
  home : Option HomeState
  /-- end time of the running muster window -/
  windowEnd : Option Nat
  roster : List Member
  deriving DecidableEq, Repr

/-! ## Closure unit (chapter 8) -/

inductive PressOutcome
  | fired
  | cut
  | notFired
  deriving DecidableEq, Repr

inductive CalnOutcome
  | released
  | held
  deriving DecidableEq, Repr

/-- The closure record (R139). -/
structure ClosureRecord where
  position : Position
  plan : BitVec 16
  verdict : RunVerdict
  steps : List Verdict
  press : PressOutcome
  caln : CalnOutcome
  holds : Nat
  restarts : Nat
  deriving DecidableEq, Repr

/-- The press state; the first-energise time and the dwell end are present exactly in ENERGISED (R140). -/
inductive Press
  | off
  | energised (first : Nat) (dwellEnd : Nat)
  deriving DecidableEq, Repr

inductive Caln
  | asserted
  | released
  deriving DecidableEq, Repr

structure ClosureUnit where
  record : Option ClosureRecord
  press : Press
  caln : Caln
  deriving DecidableEq, Repr

/-! ## Position power unit (chapter 9) -/

inductive PowerState
  | parked
  | waking
  | awake
  | headFault
  deriving DecidableEq, Repr

/-- The test tally (R154). -/
structure Tally where
  count : Nat
  smallest : Option Nat
  largest : Option Nat
  deriving DecidableEq, Repr

/-- The self-test record (R159). -/
structure SelfTestRecord where
  passed : Bool
  count : Nat
  smallest : Option Nat
  largest : Option Nat
  refSeen : Bool
  endedAt : Nat
  deriving DecidableEq, Repr

structure PowerUnit where
  state : PowerState
  clamp : ClampLevel
  parkedSince : Option Nat
  heldClosing : Bool
  wakeStart : Option Nat
  tally : Option Tally
  selfTest : Option SelfTestRecord
  hdpw : Bool
  deriving DecidableEq, Repr

/-! ## The machine -/

/-- The state of the station. -/
structure State where
  front : FrontEnd
  plan : PlanStore
  gate : ErrorGate
  timed : TimedUnit
  line : LineInterface
  coord : Coordinator
  closure : ClosureUnit
  power : PowerUnit
  /-- RSTN is held low (row RSTN_HELD_LOW; log 6) -/
  rstnLow : Bool
  /-- the model's own count of draws from the free value `Config.freeOrder` (log 4) -/
  freeDraws : Nat
  /-- the commands that wait, first in first out -/
  pending : List Instr
  deriving DecidableEq, Repr

/-- The reasons to stop with a fault: none. The manual stops the part nowhere, so nobody raises one (safe). -/
inductive Fault
  deriving DecidableEq, Repr

/-- The reasons to refuse a command. -/
inductive Refusal
  /-- Raised by an arm of `exec` for a command that has no meaning yet; safe. No arm raises it. -/
  | notModelled (mnemonic : String)
  deriving DecidableEq, Repr

/-! ## The power-on values of the blocks -/

/-- R2: the default plan setting, which is also the self-test setting. -/
def FilterSetting.default : FilterSetting := { edge := .rising, width := Config.defaultWidth }

/-- R11, R17: STOPPED, value 0, mark clear. -/
def RefCounter.cleared : RefCounter := { counting := false, value := 0, overrange := false }

/-- R60: the gate in IDLE with everything absent or clear. -/
def ErrorGate.idle : ErrorGate :=
  { state := .idle, step := none, settings := none, n := none, r := none, overrange := false, error := none,
    clamped := false, verdict := none, holdLatch := false }

/-- R74: the unit in IDLE with every field absent. -/
def TimedUnit.idle : TimedUnit :=
  { state := .idle, step := none, settings := none, startTime := none, durationEnd := none, count := none,
    verdict := none, elapsed := none }

/-- R37: the emptied plan store. -/
def PlanStore.empty : PlanStore :=
  { number := 0, fields := none, windowFirst := 1, windowLast := 16, cursor := 1, overrun := false, refused := false,
    sessionOpen := false, slots := Vector.replicate 16 none }

/-- No value of a result record. -/
def ResultValues.absent : ResultValues :=
  { n := none, r := none, error := none, clamped := false, lastPeriod := none, count := none, elapsed := none }

/-- R133: verdict NONE, attempt 0, values and marks absent. -/
def ResultRecord.blank : ResultRecord :=
  { verdict := .none, attempt := 0, values := ResultValues.absent, mark := .none, quiet := false }

def ResultTable.blank : ResultTable := Vector.replicate 16 ResultRecord.blank

/-- R94: no entry. -/
def OutQueue.empty : OutQueue :=
  { lapse := none, parked := none, done := none, ready := none, hold := none, present := none, reply := none }

def ReceiveRecord.empty : ReceiveRecord := { words := [], bad := false }

/-- R17 with MTP at a given level, under a given plan setting, at time 0. R17 does not list the release time of R4: it is
absent, the model's choice (log 38). -/
def FrontEnd.afterReset (mtp : Level) (setting : FilterSetting) (input : InputState) : FrontEnd :=
  { timeBase := 0, mtp := mtp, planSetting := setting, input := input, candidate := none, releaseTime := none,
    lastPulse := none, lastPeriod := none, counter := RefCounter.cleared, nextEdge := false, refSeen := false,
    loop := .off }

/-- R94 with a given strap value and link state. -/
def LineInterface.afterReset (strap : Position) (link : LinkState) : LineInterface :=
  { strap := strap, link := link, phase := .joining, endSlot := none, gapEnd := none, recessiveSince := 0,
    receive := ReceiveRecord.empty, queue := OutQueue.empty, transmit := none, role := .none, abortDriven := false }

/-- R108, R133 at power-on and pin reset, with the run state left open. -/
def Coordinator.afterReset (run : RunState) : Coordinator :=
  { run := run, step := none, source := .unknown, gatherEnd := none, waitEnd := none, deadline := none,
    expired := false, suspension := false, holds := 0, restarts := 0, runHolds := 0, runRestarts := 0,
    results := ResultTable.blank, verdict := none, stage := .none, remembered := none, home := none,
    windowEnd := none, roster := [] }

/-- R148 at power-on and pin reset. -/
def ClosureUnit.afterReset : ClosureUnit := { record := none, press := .off, caln := .released }

/-- R161 before a WAKING is entered. -/
def PowerUnit.afterReset (clamp : ClampLevel) : PowerUnit :=
  { state := .parked, clamp := clamp, parkedSince := none, heldClosing := false, wakeStart := none, tally := none,
    selfTest := none, hdpw := false }

/-- The machine right after power-on (R17, R37, R60, R74, R94, R108, R133, R148, R161), with the pin levels that
log 7 names: straps 1, clamp open, MTP low. -/
def State.reset : State :=
  { front := FrontEnd.afterReset .low FilterSetting.default .waitEdge
    plan := PlanStore.empty
    gate := ErrorGate.idle
    timed := TimedUnit.idle
    line := LineInterface.afterReset 1 .normal
    coord := Coordinator.afterReset .idle
    closure := ClosureUnit.afterReset
    power := PowerUnit.afterReset .opened
    rstnLow := false
    freeDraws := 0
    pending := [] }

end Sys2Proof.Machine
end

