-- ==== Sys2Proof/Machine/Operands.lean ====
section
/-! DEFINITION. What the operands of frames mean: the selector (R83), the positions of station frames (R82), the
clamping of PLAN fields (R25) and the forming of a step record (R31 to R35). -/

namespace Sys2Proof

/-- R83: in each bit that the mask has set, the position and the selector value agree. -/
def Selector.covers (sel : Selector) (p : Position) : Bool := (p ^^^ sel.value) &&& sel.mask == 0

end Sys2Proof

namespace Sys2Proof.Machine

/-- Positions of position stations, 1..30. -/
def isStationPosition (p : Position) : Bool := p != 0 && p != 31

/-- The number 1..16 of a step. -/
def stepNumber (k : StepIx) : Nat := k.val + 1

/-- A value raised to `lo` and lowered to `hi`. -/
def clampNat (lo hi x : Nat) : Nat := min hi (max lo x)

/-- A limit in ppm clamped into −999,999..+999,999 (R32). -/
def clampLimit (x : Int) : Int := min (Config.errorLimit : Int) (max (-(Config.errorLimit : Int)) x)

/-! ## PLAN (R23, R25) -/

/-- R23: plan number 1..65535 and Cref 1..2,000,000,000. -/
def planContentGood (p : PlanPayload) : Bool :=
  p.number != 0 && decide (1 ≤ p.cref.toNat) && decide (p.cref.toNat ≤ 2_000_000_000)

/-- The plan-wide fields as R25 stores them. -/
def planFields (p : PlanPayload) : PlanFields :=
  { cref := p.cref.toNat, edge := p.edge, width := clampNat 1 255 p.filter.toNat,
    gather := clampNat 5 120 p.gather.toNat }

/-- Window first as R25 stores it. -/
def planWindowFirst (p : PlanPayload) : Nat := clampNat 1 16 p.windowFirst.toNat

/-- Window last as R25 stores it: clamped to 16, then raised to the stored window first. -/
def planWindowLast (p : PlanPayload) : Nat := max (planWindowFirst p) (min 16 p.windowLast.toNat)

/-! ## STEP (R31 to R35) -/

/-- The ERROR fields of a STEP (R32, R33). -/
def errorFields (p : StepPayload) : ErrorFields :=
  { cmut := p.cmut.toNat, gate := max 1 p.gate.toNat, lower := clampLimit p.lower.toInt,
    upper := clampLimit p.upper.toInt, extension := clampNat 1 600 p.extension.toNat }

/-- D of a STEP clamped into 100..3,600,000 ms (R34). -/
def clampDuration (p : StepPayload) : Nat := clampNat 100 3_600_000 p.duration.toNat

/-- A CREEP slot keeps every threshold (R34). -/
def creepFields (p : StepPayload) : TimedFields :=
  { duration := clampDuration p, threshold := p.threshold.toNat }

/-- A START slot raises a threshold of 0 to 1 (R34). -/
def startFields (p : StepPayload) : TimedFields :=
  { duration := clampDuration p, threshold := max 1 p.threshold.toNat }

/-- The body the kind code names (R31, R172). -/
def stepBody (p : StepPayload) : StepBody :=
  match p.kind.toNat with
  | 1 => .error (errorFields p)
  | 2 => .creep (creepFields p)
  | 3 => .start (startFields p)
  | _ => .unknown

/-- Whether the fields of a body leave the slot VALID (R31, R32). -/
def bodyValid : StepBody → Bool
  | .error f => decide (1 ≤ f.cmut) && decide (f.cmut ≤ 1_000_000) && decide (f.lower ≤ f.upper)
  | .creep _ => true
  | .start _ => true
  | .unknown => false

/-- The deadline floor of a timed slot in s: ceil(D ÷ 1,000 ms) + 1 (R35). -/
def deadlineFloor (f : TimedFields) : Nat := (f.duration + 999) / 1000 + 1

/-- The base deadline as R35 forms it, the floor last. -/
def baseDeadline (p : StepPayload) : StepBody → Nat
  | .creep f => max (deadlineFloor f) (clampNat 1 3600 p.deadline.toNat)
  | .start f => max (deadlineFloor f) (clampNat 1 3600 p.deadline.toNat)
  | .error _ => clampNat 1 3600 p.deadline.toNat
  | .unknown => clampNat 1 3600 p.deadline.toNat

/-- The hold allowance: 0..7 for ERROR, 0 for the other kinds (R31, R33, R34). -/
def slotAllowance (p : StepPayload) : StepBody → Nat
  | .error _ => min 7 p.allowance.toNat
  | .creep _ => 0
  | .start _ => 0
  | .unknown => 0

/-- The step record formed from a STEP (R31 to R35). -/
def formStepRecord (p : StepPayload) : StepRecord :=
  { body := stepBody p
    valid := bodyValid (stepBody p) && p.loadPoint != 0
    loadPoint := p.loadPoint.toNat
    baseDeadline := baseDeadline p (stepBody p)
    allowance := slotAllowance p (stepBody p) }

/-- The hold extension of a slot in s; absent, read as 0, where the kind has none (R34). -/
def StepRecord.extension (r : StepRecord) : Nat :=
  match r.body with
  | .error f => f.extension
  | .creep _ => 0
  | .start _ => 0
  | .unknown => 0

end Sys2Proof.Machine
end

