-- ==== Sys2Proof/Machine/Flags.lean ====
section
/-! DEFINITION. The computations of the measuring blocks: the period (R7), the error and its verdict (R45 to R48), the
hold prediction (R50), the verdicts and the elapsed time of timed steps (R64, R65), the self-test judgement (R154,
R155), the run verdict (R130, R136). -/

namespace Sys2Proof.Machine

/-! ## The period measure (R7) -/

/-- The period from one accepted pulse to the next, saturating (R7). -/
def periodBetween (last stamp : Nat) : Nat := min Config.periodMax (stamp - last)

/-! ## The error of an ERROR step (R45 to R48) -/

/-- The numerator of R45. -/
def errorNumerator (n cref r cmut : Nat) : Int := (n * cref : Int) - (r * cmut : Int)

/-- R46: the magnitude of 1,000,000 × numerator ÷ divisor, rounded half up in magnitude. -/
def roundMagnitude (magnitude divisor : Nat) : Nat :=
  if divisor ≤ 2 * (magnitude % divisor) then magnitude / divisor + 1 else magnitude / divisor

/-- R46: the rounded quotient with the sign of the numerator. -/
def roundedError (n cref r cmut : Nat) : Int :=
  let numerator := errorNumerator n cref r cmut
  let magnitude := roundMagnitude (Config.million * numerator.natAbs) (r * cmut)
  if numerator < 0 then -(magnitude : Int) else (magnitude : Int)

/-- R47: the clamped mark. -/
def errorClamped (rounded : Int) : Bool := decide (Config.errorLimit < rounded.natAbs)

/-- R47: the rounded error limited to ±999,999. -/
def limitError (rounded : Int) : Int := clampLimit rounded

/-- What a closing gate forms: e, the clamped mark and the verdict. -/
structure GateOutcome where
  error : Option Int
  clamped : Bool
  verdict : Verdict
  deriving DecidableEq, Repr

/-- R48 for a computed error: a clamped error fails, an error within the limits passes. -/
def judgeError (lower upper rounded : Int) : Verdict :=
  if errorClamped rounded then .fail
  else if lower ≤ limitError rounded ∧ limitError rounded ≤ upper then .pass
  else .fail

/-- R48: the outcome of a gate that closes with N, R and the overrange mark. -/
def gateOutcome (g : GateSettings) (n r : Nat) (overrange : Bool) : GateOutcome :=
  if r = 0 then { error := none, clamped := false, verdict := .noref }
  else if overrange then { error := none, clamped := false, verdict := .overrange }
  else
    let rounded := roundedError n g.cref r g.cmut
    { error := some (limitError rounded), clamped := errorClamped rounded,
      verdict := judgeError g.lower g.upper rounded }

/-! ## The hold prediction (R50, R51) -/

/-- The predicted finish, rounded up to a whole millisecond (R50). -/
def predictedFinish (stamp remaining period : Nat) : Nat :=
  (stamp + remaining * period + (Config.millisecond - 1)) / Config.millisecond * Config.millisecond

/-- R51, first condition: the finish is later than the deadline less 1,000 ms. -/
def finishTooLate (finish deadline : Nat) : Bool := decide (deadline < finish + Config.holdMargin)

/-! ## Timed steps (R63 to R65) -/

/-- The count after a pulse, saturating (R63). -/
def nextCount (count : Nat) : Nat := min Config.maxCount (count + 1)

/-- The verdict that a count reached in COUNTING forms at a pulse, if it forms one (R64, R65). -/
def pulseVerdict (t : TimedSettings) (count : Nat) : Option Verdict :=
  match t.kind with
  | .creep => if t.threshold < count then some .fail else none
  | .start => if t.threshold ≤ count then some .pass else none

/-- The verdict formed at the duration end in COUNTING (R64, R65). -/
def durationVerdict (t : TimedSettings) : Verdict :=
  match t.kind with
  | .creep => .pass
  | .start => .fail

/-- The elapsed time in whole ms, 0 for a stamp before the start (R65). -/
def elapsedTime (stamp start : Nat) : Nat := (stamp - start) / Config.millisecond

/-- The elapsed time formed with a verdict at a pulse: of a START step alone (R65, R66). -/
def pulseElapsed (t : TimedSettings) (stamp : Nat) (start : Option Nat) : Option Nat :=
  match t.kind with
  | .creep => none
  | .start => start.map (elapsedTime stamp)

/-! ## The self-test (R154, R155, R159) -/

/-- The tally after a counted pulse with or without a period (R154). -/
def Tally.add (t : Tally) (period : Option Nat) : Tally :=
  { count := min Config.maxLoopCount (t.count + 1)
    smallest :=
      match period with
      | none => t.smallest
      | some p => some (match t.smallest with | none => p | some q => min q p)
    largest :=
      match period with
      | none => t.largest
      | some p => some (match t.largest with | none => p | some q => max q p) }

/-- A period present and within 3,800..4,200 µs (R155). -/
def periodGood (p : Option Nat) : Bool :=
  match p with
  | none => false
  | some x => decide (Config.selfTestShortest ≤ x) && decide (x ≤ Config.selfTestLongest)

/-- R155: the self-test passes. -/
def Tally.passes (t : Tally) : Bool :=
  t.count == Config.loopPulses && periodGood t.smallest && periodGood t.largest

/-- The cleared tally of R153. -/
def Tally.cleared : Tally := { count := 0, smallest := none, largest := none }

/-- The age of a self-test record read at an instant (R159). -/
def selfTestAge (now endedAt : Nat) : Nat := min Config.maxAge ((now - endedAt) / Config.second)

/-! ## The run verdict (R130, R136) -/

/-- PASS when the first `length` result records all hold PASS, else FAIL. -/
def runVerdictOf (results : ResultTable) (length : Nat) : RunVerdict :=
  if (results.toList.take length).all (fun r => r.verdict == .pass) then .pass else .fail

end Sys2Proof.Machine
end

