-- ==== Sys2Proof/Machine/Layout.lean ====
section
/-! DEFINITION. The bit-level view of the bench line: the word check (R77, R171), the header words (R81, R171), the
well-formedness of a taken frame (R82), the payload layouts (R172), and the command that the words of a taken frame
spell. -/

namespace Sys2Proof

/-! ## The word check (R77, R171) -/

/-- The role of a word in its frame (R77). -/
inductive WordRole
  | head
  | body
  | final
  deriving DecidableEq, Repr

/-- The role offset of R77. -/
def roleOffset : WordRole → Check
  | .head => 0x5A
  | .body => 0x3C
  | .final => 0xA5

/-- One step of the division by x^8 + x^2 + x + 1: the remainder so far takes in the next bit of the word. -/
def checkShift (c : Check) (b : Bool) : Check :=
  if c.msb != b then (c <<< 1) ^^^ 0x07 else c <<< 1

/-- The remainder after the `n` low bits of the word are taken in, highest first. -/
def baseCheckFrom (w : Word) : Nat → Check → Check
  | 0, c => c
  | n + 1, c => baseCheckFrom w n (checkShift c (w.getLsbD n))

/-- The base check: the remainder of the word times x^8, divided by x^8 + x^2 + x + 1 (R77). -/
def baseCheck (w : Word) : Check := baseCheckFrom w 16 0

/-- The check of a word in its role (R77). -/
def wordCheck (role : WordRole) (w : Word) : Check := baseCheck w ^^^ roleOffset role

/-- The contribution table of R171, bit 0 first. -/
def checkContributions : List Check :=
  [0x07, 0x0E, 0x1C, 0x38, 0x70, 0xE0, 0xC7, 0x89, 0x15, 0x2A, 0x54, 0xA8, 0x57, 0xAE, 0x5B, 0xB6]

/-- The base check as R171 gives it: the exclusive-OR of the contributions of the word's set bits. -/
def linearCheck (w : Word) : Check :=
  (List.range 16).foldl (fun c i => if w.getLsbD i then c ^^^ checkContributions.getD i 0 else c) 0

/-- The checks of the words after the head word: body words, then the final word (R75, R77). -/
def tailGroups : List Word → List Group
  | [] => []
  | [w] => [(w, wordCheck .final w)]
  | w :: rest => (w, wordCheck .body w) :: tailGroups rest

/-- The groups a sender forms from the words of a frame (R77). -/
def groupsOf : List Word → List Group
  | [] => []
  | w :: rest => (w, wordCheck .head w) :: tailGroups rest

/-- The payload length field of header word 2 (R171). -/
def payloadLengthField (w2 : Word) : Nat := (w2.extractLsb' 12 4).toNat

/-- R78: whether a receiver marks the groups it received bad: a check that does not match its role, a single word, a
fifteenth group, or a number of words other than 2 plus the payload length of header word 2. -/
def frameBad (groups : List Group) : Bool :=
  match groups.map Prod.fst with
  | w1 :: w2 :: payload =>
    groups != groupsOf (w1 :: w2 :: payload) || decide (14 < groups.length)
      || groups.length != 2 + payloadLengthField w2
  | _ => true

/-- The bits of value 1, recessive on the line, that end the `n` low bits of a number. -/
def trailingOnes : Nat → Nat → Nat
  | 0, _ => 0
  | n + 1, x => if x % 2 = 1 then trailingOnes n (x / 2) + 1 else 0

/-- The recessive bits that end the last group of a frame: its word and its check after the start bit (R75, R80). -/
def recessiveTail (groups : List Group) : Nat :=
  match groups.getLast? with
  | some g => trailingOnes 24 (g.1 ++ g.2).toNat
  | none => 0

/-! ## Frame kinds (R81, R82, R171) -/

/-- The kinds of frame, LAPSE and RESET once each (R82). -/
inductive FrameKind
  | lapse
  | reset
  | halt
  | disturbed
  | settled
  | parked
  | done
  | ready
  | hold
  | muster
  | run
  | close
  | release
  | present
  | plan
  | step
  | query
  | reply
  deriving DecidableEq, Repr

/-- Who may send a kind (R82). -/
inductive SenderClass
  | console
  | source
  | station
  deriving DecidableEq, Repr

/-- The kind codes of R171. -/
def FrameKind.code : FrameKind → BitVec 5
  | .lapse => 0x01
  | .reset => 0x02
  | .halt => 0x03
  | .disturbed => 0x04
  | .settled => 0x05
  | .parked => 0x06
  | .done => 0x07
  | .ready => 0x08
  | .hold => 0x09
  | .muster => 0x0A
  | .run => 0x0B
  | .close => 0x0C
  | .release => 0x0D
  | .present => 0x0E
  | .plan => 0x0F
  | .step => 0x10
  | .query => 0x11
  | .reply => 0x12

/-- The kind a code names, if it names one (R171: 00h and 13h..1Fh name none). -/
def kindOfCode (c : BitVec 5) : Option FrameKind :=
  [FrameKind.lapse, .reset, .halt, .disturbed, .settled, .parked, .done, .ready, .hold, .muster, .run, .close,
    .release, .present, .plan, .step, .query, .reply].find? (fun k => k.code == c)

/-- The fixed priority of each kind (R82). -/
def FrameKind.priority : FrameKind → BitVec 4
  | .lapse => 1
  | .reset => 2
  | .halt => 2
  | .disturbed => 3
  | .settled => 3
  | .parked => 4
  | .done => 5
  | .ready => 6
  | .hold => 7
  | .muster => 8
  | .run => 8
  | .close => 8
  | .release => 8
  | .present => 9
  | .plan => 10
  | .step => 10
  | .query => 11
  | .reply => 12

/-- The sender class of each kind (R82). -/
def FrameKind.sender : FrameKind → SenderClass
  | .disturbed => .source
  | .settled => .source
  | .lapse => .station
  | .parked => .station
  | .done => .station
  | .ready => .station
  | .hold => .station
  | .present => .station
  | .reply => .station
  | .reset => .console
  | .halt => .console
  | .muster => .console
  | .run => .console
  | .close => .console
  | .release => .console
  | .plan => .console
  | .step => .console
  | .query => .console

/-! ## Field encodings (R173) -/

def Verdict.code : Verdict → BitVec 3
  | .none => 0
  | .pass => 1
  | .fail => 2
  | .noref => 3
  | .overrange => 4
  | .invalid => 5
  | .incomplete => 6
  | .void => 7

/-- The verdict a code names; every code of three bits names one (R173). -/
def verdictOfCode (c : BitVec 3) : Verdict :=
  match c.toNat with
  | 0 => .none
  | 1 => .pass
  | 2 => .fail
  | 3 => .noref
  | 4 => .overrange
  | 5 => .invalid
  | 6 => .incomplete
  | _ => .void

def RecordKind.code : RecordKind → BitVec 4
  | .status => 1
  | .result => 2
  | .closure => 3
  | .selftest => 4
  | .roster => 5

/-- The record kind a code names; 0 and 6..15 name no record (R173). -/
def recordOfCode (c : BitVec 4) : Option RecordKind :=
  match c.toNat with
  | 1 => some .status
  | 2 => some .result
  | 3 => some .closure
  | 4 => some .selftest
  | 5 => some .roster
  | _ => none

/-- The payload length fixed for a REPLY of each record kind (R173). -/
def RecordKind.payloadLength : RecordKind → Nat
  | .status => 5
  | .result => 9
  | .closure => 7
  | .selftest => 6
  | .roster => 12

def Edge.bit : Edge → BitVec 1
  | .rising => 0
  | .falling => 1

def edgeOfBit (b : Bool) : Edge := if b then .falling else .rising

def ParkedReason.bit : ParkedReason → BitVec 1
  | .clampOpen => 0
  | .headFault => 1

def reasonOfBit (b : Bool) : ParkedReason := if b then .headFault else .clampOpen

def LapsePhase.bit : LapsePhase → BitVec 1
  | .gather => 0
  | .measure => 1

/-- A step index as R172 carries it: k − 1 in four bits. -/
def stepBits (k : StepIx) : BitVec 4 := BitVec.ofFin k

def stepOfBits (b : BitVec 4) : StepIx := b.toFin

/-! ## Forming frames (R171, R172) -/

/-- Header word 1: priority, source, kind code, form marker (R171). -/
def headWord (kind : FrameKind) (source : Position) : Word :=
  kind.priority ++ source ++ kind.code ++ 2#2

/-- Header word 2: payload length, selector value, selector mask, zero (R171). -/
def secondWord (length : Nat) (sel : Selector) : Word :=
  BitVec.ofNat 4 length ++ sel.value ++ sel.mask ++ 0#2

/-- The selector of station frames and source frames (R81). -/
def Selector.zero : Selector := { value := 0, mask := 0 }

/-- A frame of a kind from a source, with its payload words. -/
def formFrame (kind : FrameKind) (source : Position) (sel : Selector) (payload : List Word) : List Word :=
  headWord kind source :: secondWord payload.length sel :: payload

/-- The upper and the lower word of a 32-bit number, most significant first (11, opening words). -/
def wordsOf32 (x : BitVec 32) : List Word := [x.extractLsb' 16 16, x.extractLsb' 0 16]

def planWords (p : PlanPayload) : List Word :=
  p.number :: wordsOf32 p.cref ++
    [Edge.bit p.edge ++ 0#7 ++ p.filter, p.gather, p.windowFirst ++ p.windowLast]

def stepWords (p : StepPayload) : List Word :=
  (p.kind ++ p.allowance ++ p.loadPoint) :: wordsOf32 p.cmut ++ p.gate :: wordsOf32 p.lower ++ wordsOf32 p.upper ++
    [p.extension, p.threshold ++ p.duration.extractLsb' 16 8, p.duration.extractLsb' 0 16, p.deadline]

def doneWords (k : StepIx) (v : Verdict) (attempt : BitVec 4) (error : Option (BitVec 21)) : List Word :=
  match error with
  | none => [stepBits k ++ Verdict.code v ++ attempt ++ 0#5]
  | some e => [stepBits k ++ Verdict.code v ++ attempt ++ e.extractLsb' 16 5, e.extractLsb' 0 16]

/-- LAPSE; the bits that R172 does not name are sent as zero (log 32). -/
def lapseWord (k : StepIx) (p : LapsePhase) : Word := stepBits k ++ LapsePhase.bit p ++ 0#11

def queryWord (kind : RecordKind) (slot : BitVec 5) : Word := RecordKind.code kind ++ 0#7 ++ slot

/-- The kind of a station frame. -/
def StationFrame.kind : StationFrame → FrameKind
  | .present _ => .present
  | .ready _ => .ready
  | .hold _ => .hold
  | .done .. => .done
  | .lapse .. => .lapse
  | .parked _ => .parked
  | .reply _ => .reply

/-- The payload words of a station frame (R172, R173). The bits of READY, HOLD, LAPSE and PARKED that R172 neither names
nor shows as zero are sent as zero: the model's choice (log 32). -/
def StationFrame.payload : StationFrame → List Word
  | .present n => [n]
  | .ready k => [stepBits k ++ 0#12]
  | .hold k => [stepBits k ++ 0#12]
  | .done k v a e => doneWords k v a e
  | .lapse k p => [lapseWord k p]
  | .parked r => [0#15 ++ ParkedReason.bit r]
  | .reply payload => payload

/-- The words of a station frame from a source position. -/
def StationFrame.words (f : StationFrame) (source : Position) : List Word :=
  formFrame f.kind source Selector.zero f.payload

/-- The arbitration field of a station frame: priority, then source (R171). -/
def StationFrame.arbitration (f : StationFrame) (source : Position) : BitVec 9 :=
  f.kind.priority ++ source

/-- The words of the frame that a taken-frame command stands for; none for the other commands. A QUERY for STATUS,
CLOSURE, SELFTEST or ROSTER, whose slot is not used (R163), has slot 0: the model's choice (log 35). -/
def frameWords : Instr → Option (List Word)
  | .plan _ sel p => some (formFrame .plan 0 sel (planWords p))
  | .step _ sel p => some (formFrame .step 0 sel (stepWords p))
  | .muster _ sel n c => some (formFrame .muster 0 sel [n, 0#11 ++ c])
  | .run _ sel n k => some (formFrame .run 0 sel [n, 0#11 ++ k])
  | .halt _ sel => some (formFrame .halt 0 sel [])
  | .resetRun _ sel => some (formFrame .reset 0 sel [0])
  | .resetAll _ sel => some (formFrame .reset 0 sel [1])
  | .close _ sel => some (formFrame .close 0 sel [])
  | .release _ sel => some (formFrame .release 0 sel [])
  | .queryStatus _ sel => some (formFrame .query 0 sel [queryWord .status 0])
  | .queryResult _ sel slot => some (formFrame .query 0 sel [queryWord .result slot])
  | .queryClosure _ sel => some (formFrame .query 0 sel [queryWord .closure 0])
  | .querySelftest _ sel => some (formFrame .query 0 sel [queryWord .selftest 0])
  | .queryRoster _ sel => some (formFrame .query 0 sel [queryWord .roster 0])
  | .settled _ lp => some (formFrame .settled 31 Selector.zero [0#8 ++ lp])
  | .disturbed _ => some (formFrame .disturbed 31 Selector.zero [])
  | .present _ src n => some ((StationFrame.present n).words src)
  | .ready _ src k => some ((StationFrame.ready k).words src)
  | .hold _ src k => some ((StationFrame.hold k).words src)
  | .done _ src k v a e => some ((StationFrame.done k v a e).words src)
  | .lapseGather _ src k => some ((StationFrame.lapse k .gather).words src)
  | .lapseMeasure _ src k => some ((StationFrame.lapse k .measure).words src)
  | .parked _ src r => some ((StationFrame.parked r).words src)
  | .reply _ src payload => some ((StationFrame.reply payload).words src)
  | _ => none

/-- The words of the frame that a command stands for; no words for the other commands. -/
def wordsOfCommand (c : Instr) : List Word := (frameWords c).getD []

/-! ## Reading frames (R82, R171, R172) -/

/-- The source position field of header word 1 (R171). -/
def sourceField (w1 : Word) : Position := w1.extractLsb' 7 5

/-- The source position of a frame's words; 0 where there is no header word. -/
def sourceOf (words : List Word) : Position := sourceField (words.headD 0)

/-- The payload length the table of R82 gives a kind; DONE and REPLY are checked by their content. -/
def lengthFits (kind : FrameKind) (payload : List Word) : Bool :=
  match kind with
  | .lapse => payload.length == 1
  | .reset => payload.length == 1
  | .halt => payload.length == 0
  | .disturbed => payload.length == 0
  | .settled => payload.length == 1
  | .parked => payload.length == 1
  | .done =>
    match payload with
    | [_] => true
    | [w, _] => verdictOfCode (w.extractLsb' 9 3) == .pass || verdictOfCode (w.extractLsb' 9 3) == .fail
    | _ => false
  | .ready => payload.length == 1
  | .hold => payload.length == 1
  | .muster => payload.length == 2
  | .run => payload.length == 2
  | .close => payload.length == 0
  | .release => payload.length == 0
  | .present => payload.length == 1
  | .plan => payload.length == 6
  | .step => payload.length == 12
  | .query => payload.length == 1
  | .reply =>
    match payload with
    | w :: _ =>
      match recordOfCode (w.extractLsb' 12 4) with
      | some r => payload.length == r.payloadLength
      | none => false
    | [] => false

/-- The sources a sender class allows (R82). -/
def sourceFits (c : SenderClass) (source : Position) : Bool :=
  match c with
  | .console => source == 0
  | .source => source == 31
  | .station => source != 0 && source != 31

/-- Selector value and mask are 0 in station frames and source frames (R82). -/
def selectorFits (c : SenderClass) (w2 : Word) : Bool :=
  match c with
  | .console => true
  | _ => w2.extractLsb' 2 10 == 0

/-- The checks of R82 once the kind is known. -/
def headerFits (kind : FrameKind) (w1 w2 : Word) (payload : List Word) : Bool :=
  w1.extractLsb' 0 2 == 2 && w2.extractLsb' 0 2 == 0
    && w1.extractLsb' 12 4 == kind.priority
    && payloadLengthField w2 == payload.length
    && lengthFits kind payload
    && sourceFits kind.sender (sourceField w1)
    && selectorFits kind.sender w2

/-- R82: whether the words of a taken frame are well formed. -/
def wellFormedFrame (words : List Word) : Bool :=
  match words with
  | w1 :: w2 :: payload =>
    match kindOfCode (w1.extractLsb' 2 5) with
    | some kind => headerFits kind w1 w2 payload
    | none => false
  | _ => false

def selectorField (w2 : Word) : Selector :=
  { value := w2.extractLsb' 7 5, mask := w2.extractLsb' 2 5 }

/-- A 32-bit number from its two words, most significant first. -/
def join32 (hi lo : Word) : BitVec 32 := hi ++ lo

def readPlan (payload : List Word) : Option PlanPayload :=
  match payload with
  | [n, chi, clo, e, g, win] =>
    some { number := n, cref := join32 chi clo, edge := edgeOfBit (e.getLsbD 15), filter := e.extractLsb' 0 8,
           gather := g, windowFirst := win.extractLsb' 8 8, windowLast := win.extractLsb' 0 8 }
  | _ => none

def readStep (payload : List Word) : Option StepPayload :=
  match payload with
  | [w1, chi, clo, g, lhi, llo, uhi, ulo, ext, t, d, dl] =>
    some { kind := w1.extractLsb' 12 4, allowance := w1.extractLsb' 8 4, loadPoint := w1.extractLsb' 0 8,
           cmut := join32 chi clo, gate := g, lower := join32 lhi llo, upper := join32 uhi ulo, extension := ext,
           threshold := t.extractLsb' 8 8, duration := t.extractLsb' 0 8 ++ d, deadline := dl }
  | _ => none

def stepField (w : Word) : StepIx := stepOfBits (w.extractLsb' 12 4)

def readDone (after : Nat) (source : Position) (payload : List Word) : Option Instr :=
  match payload with
  | [w] =>
    some (.done after source (stepField w) (verdictOfCode (w.extractLsb' 9 3)) (w.extractLsb' 5 4) none)
  | [w, e] =>
    some (.done after source (stepField w) (verdictOfCode (w.extractLsb' 9 3)) (w.extractLsb' 5 4)
      (some (w.extractLsb' 0 5 ++ e)))
  | _ => none

def readQuery (after : Nat) (sel : Selector) (w : Word) : Option Instr :=
  match recordOfCode (w.extractLsb' 12 4) with
  | some .status => some (.queryStatus after sel)
  | some .result => some (.queryResult after sel (w.extractLsb' 0 5))
  | some .closure => some (.queryClosure after sel)
  | some .selftest => some (.querySelftest after sel)
  | some .roster => some (.queryRoster after sel)
  | none => none

/-- The command of a well-formed frame of a kind, by the payload layouts of R172. -/
def readPayload (after : Nat) (kind : FrameKind) (source : Position) (sel : Selector) (payload : List Word) :
    Option Instr :=
  match kind, payload with
  | .lapse, [w] =>
    some (if w.getLsbD 11 then .lapseMeasure after source (stepField w) else .lapseGather after source (stepField w))
  | .reset, [w] => some (if w.getLsbD 0 then .resetAll after sel else .resetRun after sel)
  | .halt, [] => some (.halt after sel)
  | .disturbed, [] => some (.disturbed after)
  | .settled, [w] => some (.settled after (w.extractLsb' 0 8))
  | .parked, [w] => some (.parked after source (reasonOfBit (w.getLsbD 0)))
  | .done, ws => readDone after source ws
  | .ready, [w] => some (.ready after source (stepField w))
  | .hold, [w] => some (.hold after source (stepField w))
  | .muster, [n, w] => some (.muster after sel n (w.extractLsb' 0 5))
  | .run, [n, w] => some (.run after sel n (w.extractLsb' 0 5))
  | .close, [] => some (.close after sel)
  | .release, [] => some (.release after sel)
  | .present, [n] => some (.present after source n)
  | .plan, ws => (readPlan ws).map (.plan after sel)
  | .step, ws => (readStep ws).map (.step after sel)
  | .query, [w] => readQuery after sel w
  | .reply, ws => some (.reply after source ws)
  | _, _ => none

/-- The command that the words of a frame spell by their kind code and their payload. -/
def readFrame (after : Nat) (words : List Word) : Option Instr :=
  match words with
  | w1 :: w2 :: payload =>
    match kindOfCode (w1.extractLsb' 2 5) with
    | some kind => readPayload after kind (sourceField w1) (selectorField w2) payload
    | none => none
  | _ => none

/-- The command that a taken frame brings a station: none where R82 finds the frame malformed, and none for a QUERY of a
record kind that names no record, which is taken and ignored (R163; log 21). -/
def commandOf (after : Nat) (words : List Word) : Option Instr :=
  if wellFormedFrame words then readFrame after words else none

/-- The command that the words of a taken frame spell: MALFORMED_FRAME where they bring the station none. -/
def takenCommand (after : Nat) (words : List Word) : Instr :=
  (commandOf after words).getD (.malformedFrame after (groupsOf words))

end Sys2Proof
end

