-- ==== Sys2Proof/Machine/Ops.lean ====
section
/-! DEFINITION. The named operations over the state that the chapters share: views, block updates, the filter and the
counter, the outbound queue, the roster, the result table, enrollment, and the power and closure outputs. -/

namespace Sys2Proof.Machine

/-! ## Block updates -/

def State.mapFront (s : State) (f : FrontEnd → FrontEnd) : State := { s with front := f s.front }

def State.mapPlan (s : State) (f : PlanStore → PlanStore) : State := { s with plan := f s.plan }

def State.mapGate (s : State) (f : ErrorGate → ErrorGate) : State := { s with gate := f s.gate }

def State.mapTimed (s : State) (f : TimedUnit → TimedUnit) : State := { s with timed := f s.timed }

def State.mapLine (s : State) (f : LineInterface → LineInterface) : State := { s with line := f s.line }

def State.mapCoord (s : State) (f : Coordinator → Coordinator) : State := { s with coord := f s.coord }

def State.mapClosure (s : State) (f : ClosureUnit → ClosureUnit) : State := { s with closure := f s.closure }

def State.mapPower (s : State) (f : PowerUnit → PowerUnit) : State := { s with power := f s.power }

def State.mapQueue (s : State) (f : OutQueue → OutQueue) : State :=
  s.mapLine fun l => { l with queue := f l.queue }

/-! ## Views -/

/-- The present instant on the time base (R1). -/
def State.now (s : State) : Nat := s.front.timeBase

/-- FILLED slots counted upward to the first EMPTY one. -/
def filledPrefixLength : List (Option StepRecord) → Nat
  | some _ :: rest => filledPrefixLength rest + 1
  | none :: _ => 0
  | [] => 0

/-- The plan length L (R36). -/
def PlanStore.length (p : PlanStore) : Nat := filledPrefixLength p.slots.toList

/-- The slot of a step. -/
def State.slot (s : State) (k : StepIx) : Option StepRecord := s.plan.slots[k]

/-- The result record of a step. -/
def State.result (s : State) (k : StepIx) : ResultRecord := s.coord.results[k]

/-- The level that a meter edge makes active (R2). -/
def activeLevel : Edge → Level
  | .rising => .high
  | .falling => .low

def inactiveLevel : Edge → Level
  | .rising => .low
  | .falling => .high

/-- The in-force setting: the self-test setting in BURST, else the plan setting (R2). -/
def FrontEnd.inForce (f : FrontEnd) : FilterSetting :=
  match f.loop with
  | .off => f.planSetting
  | .burst _ => FilterSetting.default

/-- The in-force filter width W in µs. -/
def FrontEnd.widthMicros (f : FrontEnd) : Nat := f.inForce.width * Config.widthUnit

/-- The level of LOOP (R15). -/
def FrontEnd.loopPin (f : FrontEnd) : Level :=
  match f.loop with
  | .off => .low
  | .burst start =>
    if f.timeBase - start < Config.burstLength ∧ (f.timeBase - start) % Config.loopPeriod < Config.loopHigh
    then .high else .low

/-- MEASURING, REPORTED or SUSPENDED: the step has triggered and is not complete. -/
def RunState.triggered : RunState → Bool
  | .measuring => true
  | .reported => true
  | .suspended => true
  | _ => false

/-- GATHERING to SUSPENDED. -/
def RunState.stepping : RunState → Bool
  | .gathering => true
  | r => r.triggered

/-- R95: the roster is live. -/
def Coordinator.live (c : Coordinator) : Bool := c.stage != .none || c.run == .enrolled || c.run.stepping

/-- R96: the roster is collecting. -/
def Coordinator.collecting (c : Coordinator) : Bool := c.stage != .none || c.run == .enrolled

/-! ## The glitch filter and the period measure (R2, R5, R8) -/

def FrontEnd.resetPeriod (f : FrontEnd) : FrontEnd := { f with lastPulse := none, lastPeriod := none }

/-- The input state that the level of MTP gives under the in-force setting (R5, R17). -/
def FrontEnd.restingInput (f : FrontEnd) : InputState :=
  if f.mtp = activeLevel f.inForce.edge then .waitRelease else .waitEdge

/-- R3: the candidate whose hold completes at this very instant, its pulse not yet taken. -/
def FrontEnd.completing (f : FrontEnd) : Option Nat :=
  if f.input = .qualify then f.candidate.filter fun t => t + f.widthMicros == f.timeBase else none

/-- R5: a restart of the filter. A pulse whose acceptance instant this is, is not lost with the candidate: it travels
with no period and its time stamp becomes the last pulse time (R8, R154; log 31). R5 does not name the release time: it
becomes absent, the model's choice (log 38). -/
def FrontEnd.restartFilter (f : FrontEnd) (pulse : Option Nat) : FrontEnd :=
  { f.resetPeriod with lastPulse := pulse, candidate := none, releaseTime := none, input := f.restingInput }

/-- R5: the filter restarts where the in-force setting differs from the one before. -/
def FrontEnd.restartIfChanged (f before : FrontEnd) : FrontEnd :=
  if f.inForce = before.inForce then f else f.restartFilter before.completing

/-- R2: a new plan setting, in force at once outside a burst. -/
def FrontEnd.setPlanSetting (f : FrontEnd) (x : FilterSetting) : FrontEnd :=
  { f with planSetting := x }.restartIfChanged f

/-- R15, R16: the loop generator returns to OFF, at the end of a burst or at its abort. -/
def FrontEnd.loopOff (f : FrontEnd) : FrontEnd :=
  { f with loop := .off }.restartIfChanged f

/-- R15: the burst starts; the filter restarts and the period measure is reset. -/
def FrontEnd.loopStart (f : FrontEnd) : FrontEnd :=
  { f with loop := .burst f.timeBase }.restartFilter f.completing

/-! ## The reference counter and the next-edge request (R11, R12, R13) -/

def RefCounter.started : RefCounter := { counting := true, value := 0, overrange := false }

def RefCounter.stopped (c : RefCounter) : RefCounter := { c with counting := false }

/-- R12: a rising edge of RFP. -/
def RefCounter.edge (c : RefCounter) : RefCounter :=
  if c.counting && decide (c.value < Config.counterMax) then
    { c with value := c.value + 1, overrange := c.overrange || decide (c.value + 1 = Config.counterMax) }
  else c

def State.stopCounter (s : State) : State := s.mapFront fun f => { f with counter := f.counter.stopped }

/-- R113, R126: the reference wait starts and the next-edge request is made PENDING. -/
def State.startReferenceWait (s : State) : State :=
  (s.mapCoord fun c => { c with waitEnd := some (s.now + Config.referenceWait) }).mapFront
    fun f => { f with nextEdge := true }

/-- The reference wait is stopped and the request cancelled (R13). -/
def State.stopReferenceWait (s : State) : State :=
  (s.mapCoord fun c => { c with waitEnd := none }).mapFront fun f => { f with nextEdge := false }

/-! ## The outbound queue (R85, R93) -/

/-- R85: a new entry has a failed-attempt count of 0. -/
def Entry.fresh {α : Type} (frame : α) : Entry α := { frame := frame, fails := 0, offered := false }

/-- A request to queue; in STRAP-FAULT it is discarded (R93). -/
def State.request (s : State) (f : OutQueue → OutQueue) : State :=
  if s.line.link = .strapFault then s else s.mapQueue f

def State.queueLapse (s : State) (k : StepIx) (p : LapsePhase) : State :=
  s.request fun q => { q with lapse := some (Entry.fresh { step := k, phase := p }) }

def State.queueParked (s : State) (r : ParkedReason) : State :=
  s.request fun q => { q with parked := some (Entry.fresh r) }

def State.queueReady (s : State) (k : StepIx) : State :=
  s.request fun q => { q with ready := some (Entry.fresh k) }

def State.queueHold (s : State) (k : StepIx) : State :=
  s.request fun q => { q with hold := some (Entry.fresh k) }

def State.queuePresent (s : State) (n : BitVec 16) : State :=
  s.request fun q => { q with present := some (Entry.fresh n) }

def State.queueReply (s : State) (kind : RecordKind) (slot : BitVec 5) : State :=
  s.request fun q => { q with reply := some (Entry.fresh { kind := kind, slot := slot }) }

/-- The DONE of a result record (R120): step index, verdict, attempt, and the error when the record holds one. -/
def doneOf (k : StepIx) (r : ResultRecord) : DoneFrame :=
  { step := k, verdict := r.verdict, attempt := r.attempt, error := r.values.error }

/-- DONE(k) is queued from the record as it stands (R120). -/
def State.queueDone (s : State) (k : StepIx) : State :=
  s.request fun q => { q with done := some (Entry.fresh (doneOf k (s.result k))) }

def State.withdrawReady (s : State) : State := s.mapQueue fun q => { q with ready := none }

def State.withdrawHold (s : State) : State := s.mapQueue fun q => { q with hold := none }

def State.withdrawDone (s : State) : State := s.mapQueue fun q => { q with done := none }

def State.withdrawPresent (s : State) : State := s.mapQueue fun q => { q with present := none }

/-- Whether a LAPSE of this step and phase is pending. -/
def OutQueue.lapsePending (q : OutQueue) (k : StepIx) (p : LapsePhase) : Bool :=
  match q.lapse with
  | some e => e.frame == { step := k, phase := p }
  | none => false

/-- Withdraw a pending LAPSE of this step and phase. -/
def State.withdrawLapse (s : State) (k : StepIx) (p : LapsePhase) : State :=
  if s.line.queue.lapsePending k p then s.mapQueue fun q => { q with lapse := none } else s

/-- R123, R130, R131, R132: READY, HOLD, DONE and LAPSE of the station's own are withdrawn. -/
def State.withdrawStepFrames (s : State) : State :=
  s.mapQueue fun q => { q with lapse := none, done := none, ready := none, hold := none }

/-! ## The roster (R95, R96, R104 to R107) -/

def Member.isActive (m : Member) : Bool := m.standing == .active

def Member.join (p : Position) : Member := { position := p, standing := .active, phase := .waiting }

/-- R95, R96: a position joins in its place; one already listed stays as it is. -/
def enterRoster (p : Position) : List Member → List Member
  | [] => [Member.join p]
  | m :: rest =>
    if p < m.position then Member.join p :: m :: rest
    else if p = m.position then m :: rest
    else m :: enterRoster p rest

/-- Whether a position has an ACTIVE entry. -/
def activeAt (p : Position) (roster : List Member) : Bool :=
  roster.any fun m => m.position == p && m.isActive

/-- The phase of the ACTIVE entry of a position is set. -/
def setPhaseAt (p : Position) (ph : Phase) (roster : List Member) : List Member :=
  roster.map fun m => if m.position == p && m.isActive then { m with phase := ph } else m

/-- R111: every ACTIVE entry takes the phase WAITING. -/
def allWaiting (roster : List Member) : List Member :=
  roster.map fun m => if m.isActive then { m with phase := .waiting } else m

def Member.isReported (m : Member) : Bool :=
  match m.phase with
  | .reported _ => true
  | .waiting => false
  | .ready => false

/-- R124, R127: each ACTIVE entry that is not REPORTED becomes REPORTED with a verdict. -/
def reportRest (v : Verdict) (roster : List Member) : List Member :=
  roster.map fun m => if m.isActive && !m.isReported then { m with phase := .reported v } else m

/-- R105 to R107, R119: the ACTIVE entries that satisfy `p` become STRUCK. -/
def strikeWhere (p : Member → Bool) (reason : StrikeReason) (roster : List Member) : List Member :=
  roster.map fun m => if m.isActive && p m then { m with standing := .struck reason } else m

/-- R113: every ACTIVE entry is READY. -/
def allReady (roster : List Member) : Bool := roster.all fun m => !m.isActive || m.phase == .ready

/-- R123: every ACTIVE entry is REPORTED. -/
def allReported (roster : List Member) : Bool := roster.all fun m => !m.isActive || m.isReported

def State.mapRoster (s : State) (f : List Member → List Member) : State :=
  s.mapCoord fun c => { c with roster := f c.roster }

/-! ## The result table (R101, R120, R131) -/

def State.setResult (s : State) (k : StepIx) (r : ResultRecord) : State :=
  s.mapCoord fun c => { c with results := c.results.set k r }

/-- Verdict NONE with values and marks absent, the attempt kept (R101, R125, R131). -/
def ResultRecord.cleared (r : ResultRecord) : ResultRecord := { ResultRecord.blank with attempt := r.attempt }

/-- R120: the verdict and the values handed over, with no partial-or-late mark; attempt and reference-quiet stay. -/
def ResultRecord.write (r : ResultRecord) (v : Verdict) (x : ResultValues) : ResultRecord :=
  { r with verdict := v, values := x, mark := .none }

/-- R120: result record k is written and DONE(k) is queued. -/
def State.writeResult (s : State) (k : StepIx) (v : Verdict) (x : ResultValues) : State :=
  (s.setResult k ((s.result k).write v x)).queueDone k

def State.clearResult (s : State) (k : StepIx) : State := s.setResult k (s.result k).cleared

/-- R101: the records of steps first..L are cleared, with their attempts kept. -/
def clearResultsFrom (first : StepIx) (length : Nat) (t : ResultTable) : ResultTable :=
  t.mapIdx fun i r => if first.val ≤ i ∧ i < length then r.cleared else r

/-! ## Rest states and enrollment (R36, R103) -/

/-- R36: LOADED while L is 1..16, IDLE while L is 0. -/
def PlanStore.restState (p : PlanStore) : RunState := if p.length = 0 then .idle else .loaded

/-- The station returns to LOADED or IDLE by L; the step in hand becomes absent (R36, R130). -/
def State.toRest (s : State) : State :=
  s.mapCoord fun c => { c with run := s.plan.restState, step := none }

/-- The run state becomes LOADED; the step in hand becomes absent (R130, R131, R132, R135). -/
def State.toLoaded (s : State) : State := s.mapCoord fun c => { c with run := .loaded, step := none }

/-- An enrollment returns to its home state (R97, R100, R103). -/
def State.toHome (s : State) : State :=
  match s.coord.home with
  | some .closing => s.mapCoord fun c => { c with run := .closing }
  | some .loaded => s.toLoaded
  | none => s.toLoaded

/-- R100, R102, R103: the window is stopped, a pending PRESENT withdrawn, the roster emptied, the stage NONE, the
remembered MUSTER and the home state absent. -/
def State.endEnrollment (s : State) : State :=
  (s.mapCoord fun c =>
    { c with stage := .none, remembered := none, home := none, windowEnd := none, roster := [] }).withdrawPresent

/-- R103: an enrollment in progress ends where the stage is AWAITING or REMEMBERED. -/
def State.endMuster (s : State) : State := if s.coord.stage = .none then s else s.endEnrollment

/-! ## The units at the end of a step (R57, R59, R74) -/

/-- The gate becomes IDLE; the counter is stopped if it counts. R57 to R59 do not say of every field of the gate what
becomes of it: all become absent or clear, the model's choice (log 34). -/
def State.gateToIdle (s : State) : State := (s.stopCounter).mapGate fun _ => ErrorGate.idle

/-- The timed unit becomes IDLE. R73 and R74 do not say of every field of the unit what becomes of it: all become absent,
the model's choice (log 34). -/
def State.timedToIdle (s : State) : State := s.mapTimed fun _ => TimedUnit.idle

def State.unitsToIdle (s : State) : State := s.gateToIdle.timedToIdle

/-! ## The press and CALN (R140 to R143) -/

/-- R142: where the record is kept, its press outcome FIRED becomes CUT. -/
def ClosureRecord.cut (r : ClosureRecord) : ClosureRecord := { r with press := .cut }

/-- R142: an energised press is cut; a press that is OFF leaves the outcome as it was. -/
def ClosureUnit.cutPress (c : ClosureUnit) : ClosureUnit :=
  match c.press with
  | .off => c
  | .energised _ _ => { c with press := .off, record := c.record.map ClosureRecord.cut }

def State.cutPress (s : State) : State := s.mapClosure ClosureUnit.cutPress

def State.releaseCaln (s : State) : State := s.mapClosure fun c => { c with caln := .released }

def State.assertCaln (s : State) : State := s.mapClosure fun c => { c with caln := .asserted }

/-! ## The power states (R152, R153) -/

/-- R153: WAKING is entered. -/
def State.enterWaking (s : State) : State :=
  (s.mapPower fun p =>
    { p with state := .waking, parkedSince := none, heldClosing := false, wakeStart := some s.now,
             tally := some Tally.cleared, hdpw := true }).mapFront fun f => { f with refSeen := false }

/-- R152: PARKED is entered; HDPW is off and CALN released (R143, R150). -/
def State.enterParked (s : State) : State :=
  (s.mapPower fun p =>
    { p with state := .parked, parkedSince := some s.now, heldClosing := false, wakeStart := none, tally := none,
             hdpw := false }).releaseCaln

/-! ## Link faults (R91, R92) -/

/-- R91, R92: DONE is queued again where the result of the step in hand is written and the station's own DONE has not
been taken, which is in MEASURING with a verdict in the record. -/
def State.requeueDone (s : State) : State :=
  match s.coord.step with
  | some k => if s.coord.run = .measuring ∧ (s.result k).verdict ≠ .none then s.queueDone k else s
  | none => s

/-- The transmit copy becomes absent and the attempt role NONE (R89, R94). -/
def LineInterface.endAttempt (l : LineInterface) : LineInterface := { l with transmit := none, role := .none }

/-- R91: LINK-FAULT is entered. -/
def State.enterLinkFault (s : State) : State :=
  (s.mapLine fun l => { l with link := .linkFault, queue := OutQueue.empty }).requeueDone

/-- R92: DUPLICATE is entered from NORMAL or LINK-FAULT. -/
def State.enterDuplicate (s : State) : State :=
  (s.mapLine fun l => { l.endAttempt with link := .duplicate, queue := OutQueue.empty }).requeueDone

end Sys2Proof.Machine
end

