-- ==== Sys2Proof/Machine/Coordination.lean ====
section
/-! DEFINITION. The step coordinator's transitions (chapter 7) and what they ask of the gate and the timed unit: the
deadline, gathering, the trigger, the common start, completion, the end of the run, and the results written from a unit
that is ended early. -/

namespace Sys2Proof.Machine

/-! ## The step deadline (R52, R115, R117) -/

/-- R117: whether a LAPSE of the measure phase of the step in hand is pending. -/
def State.measureLapsePending (s : State) : Bool :=
  match s.coord.step with
  | some k => s.line.queue.lapsePending k .measure
  | none => false

/-- A time that is present and not later than the present instant. -/
def State.reached (s : State) (d : Option Nat) : Bool :=
  match d with
  | some x => decide (x ≤ s.now)
  | none => false

/-- R117: the expiry mark after a change of the deadline: clear, but set again where a LAPSE is pending and the new
deadline is not later than the present instant. -/
def State.expiryAfterChange (s : State) (d : Option Nat) : Bool := s.measureLapsePending && s.reached d

/-- R117: a pending LAPSE is withdrawn where the new deadline is absent or later than the present instant. -/
def State.settleLapse (s : State) (d : Option Nat) : State :=
  match s.coord.step with
  | some k => if s.reached d then s else s.withdrawLapse k .measure
  | none => s

/-- The deadline changes: the expiry mark and a pending LAPSE follow R117, the hold latch and a pending HOLD R52. -/
def State.changeDeadline (s : State) (d : Option Nat) : State :=
  (((s.settleLapse d).mapCoord fun c => { c with deadline := d, expired := s.expiryAfterChange d }).mapGate
    fun g => { g with holdLatch := false }).withdrawHold

/-! ## Gathering and the trigger (R110, R111, R113) -/

/-- R111: the station enters GATHERING(k). -/
def State.enterGathering (s : State) (k : StepIx) : State :=
  (s.mapCoord fun c =>
    { c with run := .gathering, step := some k, roster := allWaiting c.roster,
             gatherEnd := s.plan.fields.map fun f => s.now + f.gather * Config.second,
             deadline := none, expired := false, suspension := false, holds := 0, restarts := 0 }).queueReady k

/-- R110: the view is settled at a slot's load point; a slot of load point 0 takes any. -/
def SourceView.settledAt (v : SourceView) (slot : Option StepRecord) : Bool :=
  match v, slot with
  | .settled lp, some r => r.loadPoint == 0 || lp == r.loadPoint
  | _, _ => false

/-- R39: the settings of the gate, Cref from the plan record and the rest from the slot. -/
def gateSettings (p : PlanStore) (f : ErrorFields) : GateSettings :=
  { cref := match p.fields with | some x => x.cref | none => 0
    cmut := f.cmut, gate := f.gate, lower := f.lower, upper := f.upper }

/-- R39: the gate armed for a step. -/
def ErrorGate.armedFor (k : StepIx) (x : GateSettings) : ErrorGate :=
  { ErrorGate.idle with state := .armed, step := some k, settings := some x }

/-- R61: the timed unit armed for a step. -/
def TimedUnit.armedFor (k : StepIx) (kind : TimedKind) (f : TimedFields) : TimedUnit :=
  { TimedUnit.idle with
    state := .armed, step := some k,
    settings := some { kind := kind, duration := f.duration, threshold := f.threshold } }

/-- R113: the slot is handed to the unit that measures it; an INVALID slot arms neither. -/
def State.armUnits (s : State) (k : StepIx) : State :=
  match s.slot k with
  | some r =>
    if r.valid then
      match r.body with
      | .error f => s.mapGate fun _ => ErrorGate.armedFor k (gateSettings s.plan f)
      | .creep f => s.mapTimed fun _ => TimedUnit.armedFor k .creep f
      | .start f => s.mapTimed fun _ => TimedUnit.armedFor k .start f
      | .unknown => s
    else s
  | none => s

/-- R113: the actions of the trigger of step k; READY is withdrawn on leaving GATHERING (R111). -/
def State.trigger (s : State) (k : StepIx) : State :=
  ((((s.withdrawLapse k .gather).withdrawReady).mapCoord fun c =>
    { c with gatherEnd := none, run := .measuring }).armUnits k).startReferenceWait

/-- R113: the trigger of step k holds. -/
def State.triggerHolds (s : State) (k : StepIx) : Bool :=
  allReady s.coord.roster && s.coord.source.settledAt (s.slot k)

/-- R113: the trigger test, made in GATHERING. -/
def State.triggerTest (s : State) : State :=
  match s.coord.run, s.coord.step with
  | .gathering, some k => if s.triggerHolds k then s.trigger k else s
  | _, _ => s

/-! ## The end of the run and completion (R123, R129, R130) -/

/-- R130: the run ends at its last step or at a gather LAPSE that strikes the station. -/
def State.endRun (s : State) : State :=
  ((s.stopReferenceWait).mapCoord fun c =>
    { c with verdict := some (runVerdictOf c.results s.plan.length), run := .closing, gatherEnd := none,
             deadline := none }).withdrawStepFrames

/-- R129: the station gathers for the next step, or its run ends. -/
def State.advance (s : State) (k : StepIx) : State :=
  if h : k.val + 1 < 16 then
    if stepNumber k < s.plan.length then s.enterGathering ⟨k.val + 1, h⟩ else s.endRun
  else s.endRun

/-- R123: what the station does at the completion of a step before it advances. -/
def State.closeStep (s : State) : State :=
  (((s.stopReferenceWait).mapCoord fun c =>
    { c with deadline := none, expired := false, suspension := false, holds := 0, restarts := 0 }).withdrawStepFrames).unitsToIdle

/-- R123: the completion of step k. -/
def State.completeStep (s : State) (k : StepIx) : State := s.closeStep.advance k

/-- R123: the completion test, made while the step has triggered. -/
def State.completionTest (s : State) : State :=
  match s.coord.step with
  | some k => if s.coord.run.triggered && allReported s.coord.roster then s.completeStep k else s
  | none => s

/-- R105 to R107: the trigger test or the completion test after a strike, by the run state. -/
def State.testAfterStrike (s : State) : State :=
  if s.coord.run = .gathering then s.triggerTest else s.completionTest

/-! ## The common start (R40, R62, R114) -/

/-- R114: the deadline of a start at `t0` (R115). -/
def State.startDeadline (s : State) (r : StepRecord) (t0 : Nat) : Nat :=
  t0 + r.baseDeadline * Config.second + s.coord.holds * r.extension * Config.second

/-- R114: the attempt rises, saturating, and the reference-quiet mark is set or cleared. -/
def ResultRecord.started (r : ResultRecord) (quiet : Bool) : ResultRecord :=
  { r with attempt := min Config.maxAttempt (r.attempt + 1), quiet := quiet }

/-- R40: the armed gate enters WAITING-OPEN and asks for a reset of the period measure. -/
def State.startGate (s : State) : State :=
  if s.gate.state = .armed then
    (s.mapGate fun g => { g with state := .waitingOpen, holdLatch := false }).mapFront FrontEnd.resetPeriod
  else s

/-- R62: the armed timed unit enters COUNTING at `t0`. -/
def State.startTimed (s : State) (t0 : Nat) : State :=
  if s.timed.state = .armed then
    s.mapTimed fun u =>
      { u with state := .counting, startTime := some t0, count := some 0,
               durationEnd := u.settings.map fun x => t0 + x.duration * Config.millisecond }
  else s

/-- R114: an INVALID slot has its result written INVALID and its DONE queued at t0. -/
def State.reportInvalid (s : State) (k : StepIx) (r : StepRecord) : State :=
  if r.valid then s else s.writeResult k .invalid ResultValues.absent

/-- R114: what a station in MEASURING(k) does at t0 beside its deadline. -/
def State.startMeasurement (s : State) (k : StepIx) (r : StepRecord) (t0 : Nat) (quiet : Bool) : State :=
  ((((s.setResult k ((s.result k).started quiet)).startGate).startTimed t0).reportInvalid k r)

/-- R114, R126: the common start of step k, by the run state; a REPORTED station only sets its deadline. -/
def State.startStep (s : State) (k : StepIx) (r : StepRecord) (t0 : Nat) (quiet : Bool) : State :=
  match s.coord.run with
  | .measuring => (s.changeDeadline (some (s.startDeadline r t0))).startMeasurement k r t0 quiet
  | .reported => s.changeDeadline (some (s.startDeadline r t0))
  | _ => s

/-- R114: the reference wait is over and t0 is fixed. -/
def State.commonStart (s : State) (t0 : Nat) (quiet : Bool) : State :=
  match s.coord.step with
  | some k =>
    match s.slot k with
    | some r => s.stopReferenceWait.startStep k r t0 quiet
    | none => s.stopReferenceWait
  | none => s.stopReferenceWait

/-! ## Results of a unit ended early (R53, R58, R69, R73, R124, R132) -/

/-- INCOMPLETE with no values and no mark; attempt and reference-quiet stay (log 25). -/
def ResultRecord.incomplete (r : ResultRecord) : ResultRecord :=
  { r with verdict := .incomplete, values := ResultValues.absent, mark := .none }

/-- The values of an ERROR step ended in WAITING-OPEN: N = 0 (R53). -/
def waitingValues : ResultValues := { ResultValues.absent with n := some 0 }

/-- The values of an ERROR step ended in OPEN: N, R and the last period (R53). -/
def State.openValues (s : State) : ResultValues :=
  { ResultValues.absent with
    n := s.gate.n, r := some s.front.counter.value, lastPeriod := s.front.lastPeriod }

/-- The values of a timed step ended in COUNTING: the count so far (R69). -/
def State.countingValues (s : State) : ResultValues := { ResultValues.absent with count := s.timed.count }

/-- INCOMPLETE with partial values. -/
def ResultRecord.partlyDone (r : ResultRecord) (x : ResultValues) : ResultRecord :=
  { r with verdict := .incomplete, values := x, mark := .partly }

/-- R53, R69, R124: INCOMPLETE with the values already written, marked LATE. -/
def ResultRecord.lateDone (r : ResultRecord) : ResultRecord := { r with verdict := .incomplete, mark := .late }

/-- The record of a step ended before the station's own DONE is taken, `written` being what becomes of a result that
was written already: LATE at a LAPSE (R53, R69, R124), standing at a clamp opening (R58, R73, R132). -/
def State.endedRecord (s : State) (k : StepIx) (written : ResultRecord → ResultRecord) : ResultRecord :=
  match s.gate.state with
  | .armed => (s.result k).incomplete
  | .waitingOpen => (s.result k).partlyDone waitingValues
  | .opened => (s.result k).partlyDone s.openValues
  | .closed => written (s.result k)
  | .idle =>
    match s.timed.state with
    | .armed => (s.result k).incomplete
    | .counting => (s.result k).partlyDone s.countingValues
    | .trailing => written (s.result k)
    | .ended => written (s.result k)
    | .idle => if (s.result k).verdict = .none then (s.result k).incomplete else written (s.result k)

/-! ## A run ended by HALT or by the clamp (R131, R132) -/

/-- R131, R132: timers, marks and step counts of the run are cleared, its frames withdrawn and its units idled. For the
marks and counts at a clamp opening see log 14. -/
def State.stopRun (s : State) : State :=
  (((s.stopReferenceWait).mapCoord fun c =>
    { c with gatherEnd := none, deadline := none, expired := false, suspension := false, holds := 0,
             restarts := 0 }).withdrawStepFrames).unitsToIdle

/-- R131: a matching HALT in GATHERING to SUSPENDED ends the run. -/
def State.haltRun (s : State) (k : StepIx) : State :=
  (((s.clearResult k).stopRun).mapCoord fun c => { c with roster := [], verdict := none }).toLoaded

/-- R132: the result of step k at a clamp opening, by the run state. -/
def State.clampResult (s : State) (k : StepIx) : State :=
  match s.coord.run with
  | .measuring => s.setResult k (s.endedRecord k id)
  | .suspended => s.setResult k (s.endedRecord k id)
  | _ => s

/-- R132: a clamp opening in GATHERING to SUSPENDED ends the run; the roster is kept. -/
def State.clampEndsRun (s : State) (k : StepIx) : State :=
  (((s.clampResult k).stopRun).mapCoord fun c => { c with verdict := none }).toLoaded

/-! ## Disturbance and restart (R55, R56, R71, R125 to R127) -/

/-- R55: the gate discards its values and is ARMED for the same step with the same settings. -/
def ErrorGate.voided (g : ErrorGate) : ErrorGate :=
  if g.state = .idle then g
  else { g with state := .armed, n := none, r := none, overrange := false, error := none, clamped := false,
                verdict := none }

/-- R71: the timed unit discards its values and is ARMED for the same step with the same settings. -/
def TimedUnit.voided (u : TimedUnit) : TimedUnit :=
  if u.state = .idle then u
  else { u with state := .armed, startTime := none, durationEnd := none, count := none, verdict := none,
                elapsed := none }

/-- R71: a reported unit goes from TRAILING to ENDED, so that its count is final. -/
def TimedUnit.endTrailing (u : TimedUnit) : TimedUnit :=
  if u.state = .trailing then { u with state := .ended } else u

/-- R125: a station in MEASURING(k) is suspended. -/
def State.suspendStep (s : State) (k : StepIx) : State :=
  ((((((s.stopCounter).mapGate ErrorGate.voided).mapTimed TimedUnit.voided).stopReferenceWait).clearResult k).withdrawDone).withdrawHold.mapCoord
    fun c => { c with run := .suspended, suspension := true }

/-- R125: a station in REPORTED(k) keeps its result; its trailing count ends. -/
def State.suspendReported (s : State) : State :=
  (s.mapTimed TimedUnit.endTrailing).mapCoord fun c => { c with suspension := true }

/-- R127: result record k becomes VOID with no values, its attempt kept. -/
def ResultRecord.voided (r : ResultRecord) : ResultRecord :=
  { r with verdict := .void, values := ResultValues.absent, mark := .none }

/-- R127: the result of a station that has not reported. -/
def State.voidResult (s : State) (k : StepIx) : State :=
  if s.coord.run = .measuring then (s.setResult k (s.result k).voided).withdrawDone else s

/-- R127: the fourth disturbance completes step k. -/
def State.voidStep (s : State) (k : StepIx) : State :=
  (((s.voidResult k).mapRoster (reportRest .void)).completeStep k)

/-- R126: the settled source restarts step k. -/
def State.restartStep (s : State) : State :=
  ((s.mapCoord fun c =>
      { c with restarts := c.restarts + 1, runRestarts := c.runRestarts + 1, holds := 0, suspension := false,
               run := if c.run = .suspended then .measuring else c.run }).changeDeadline none).startReferenceWait

end Sys2Proof.Machine
end

