-- ==== Sys2Proof/Machine/Measure.lean ====
section
/-! DEFINITION. What the consumers do with an accepted pulse (chapters 1, 3, 4, 9): routing, the error gate, the timed
step unit, the self-test; and what a reference edge and the duration end do. -/

namespace Sys2Proof.Machine

/-! ## The error gate (R41 to R43, R49 to R51) -/

/-- R41: the opening pulse starts the counter and sets N to 0. -/
def State.openGate (s : State) : State :=
  (s.mapGate fun g => { g with state := .opened, n := some 0 }).mapFront
    fun f => { f with counter := RefCounter.started }

/-- R49: the values a closing gate hands to the coordinator. -/
def closingValues (o : GateOutcome) (n r : Nat) (period : Option Nat) : ResultValues :=
  { ResultValues.absent with
    n := some n, r := some r, error := o.error, clamped := o.clamped, lastPeriod := period }

/-- R43: the gate in CLOSED with N, R, e, the marks and the verdict it holds. -/
def ErrorGate.closeWith (g : ErrorGate) (o : GateOutcome) (n r : Nat) (overrange : Bool) : ErrorGate :=
  { g with state := .closed, n := some n, r := some r, overrange := overrange, error := o.error,
           clamped := o.clamped, verdict := some o.verdict }

/-- R43: the closing pulse: the counter stops, R is read, e and the verdict are formed, the values go to the
coordinator, a pending HOLD is withdrawn. -/
def State.closeGate (s : State) (k : StepIx) (g : GateSettings) (n : Nat) (period : Option Nat) : State :=
  let counter := s.front.counter
  let outcome := gateOutcome g n counter.value counter.overrange
  (((s.stopCounter).mapGate fun x => x.closeWith outcome n counter.value counter.overrange).writeResult k
    outcome.verdict (closingValues outcome n counter.value period)).withdrawHold

/-- R51: the three conditions of an automatic hold. -/
def State.holdWanted (s : State) (k : StepIx) (finish : Nat) : Bool :=
  match s.slot k, s.coord.deadline with
  | some r, some d => finishTooLate finish d && decide (s.coord.holds < r.allowance) && !s.gate.holdLatch
  | _, _ => false

/-- R51: HOLD(k) is queued and the latch set. -/
def State.askHold (s : State) (k : StepIx) : State :=
  (s.queueHold k).mapGate fun g => { g with holdLatch := true }

/-- R50, R51: the prediction at a counted pulse that carries a period. -/
def State.predictHold (s : State) (k : StepIx) (g : GateSettings) (n stamp : Nat) (period : Option Nat) : State :=
  match period with
  | some p => if s.holdWanted k (predictedFinish stamp (g.gate - n) p) then s.askHold k else s
  | none => s

/-- R42: a pulse taken in OPEN adds 1 to N; it closes the gate or is followed by the prediction. -/
def State.countGate (s : State) (k : StepIx) (g : GateSettings) (n stamp : Nat) (period : Option Nat) : State :=
  if g.gate ≤ n + 1 then s.closeGate k g (n + 1) period
  else (s.mapGate fun x => { x with n := some (n + 1) }).predictHold k g (n + 1) stamp period

/-- R41, R42: a pulse the gate takes. -/
def State.gatePulse (s : State) (stamp : Nat) (period : Option Nat) : State :=
  match s.gate.state, s.gate.step, s.gate.settings, s.gate.n with
  | .waitingOpen, _, _, _ => s.openGate
  | .opened, some k, some g, some n => s.countGate k g n stamp period
  | _, _, _, _ => s

/-! ## The timed step unit (R63 to R67) -/

/-- R66: the values of a verdict. -/
def timedValues (count : Nat) (elapsed : Option Nat) : ResultValues :=
  { ResultValues.absent with count := some count, elapsed := elapsed }

/-- R64, R65: a verdict formed at a pulse; the unit goes to TRAILING. -/
def State.formTimed (s : State) (k : StepIx) (count : Nat) (elapsed : Option Nat) (v : Verdict) : State :=
  (s.mapTimed fun u => { u with state := .trailing, count := some count, verdict := some v, elapsed := elapsed }).writeResult
    k v (timedValues count elapsed)

/-- R63 to R65: a pulse taken in COUNTING. -/
def State.countTimed (s : State) (k : StepIx) (x : TimedSettings) (count stamp : Nat) : State :=
  match pulseVerdict x count with
  | some v => s.formTimed k count (pulseElapsed x stamp s.timed.startTime) v
  | none => s.mapTimed fun u => { u with count := some count }

/-- R67: a pulse taken in TRAILING replaces the count in the unit and in the result record. -/
def State.trailTimed (s : State) (k : StepIx) (count : Nat) : State :=
  (s.mapTimed fun u => { u with count := some count }).setResult k
    { s.result k with values := { (s.result k).values with count := some count } }

/-- R63: a pulse the timed unit takes. -/
def State.timedPulse (s : State) (stamp : Nat) : State :=
  match s.timed.state, s.timed.step, s.timed.settings, s.timed.count with
  | .counting, some k, some x, some c => s.countTimed k x (nextCount c) stamp
  | .trailing, some k, _, some c => s.trailTimed k (nextCount c)
  | _, _, _, _ => s

/-- R64, R65: the duration end in COUNTING forms the verdict and hands the result; the unit goes to ENDED. -/
def State.formAtDuration (s : State) (k : StepIx) (x : TimedSettings) (count : Nat) : State :=
  (s.mapTimed fun u => { u with state := .ended, verdict := some (durationVerdict x), elapsed := none }).writeResult k
    (durationVerdict x) (timedValues count none)

/-- R63 to R65: the duration end. -/
def State.reachDuration (s : State) : State :=
  match s.timed.state, s.timed.step, s.timed.settings, s.timed.count with
  | .counting, some k, some x, some c => s.formAtDuration k x c
  | .counting, _, _, _ => s.mapTimed fun u => { u with state := .ended }
  | .trailing, _, _, _ => s.mapTimed TimedUnit.endTrailing
  | _, _, _, _ => s

/-! ## The self-test (R154) -/

/-- R154: the burst of this WAKING has started: it runs, or its start lies in the past (log 17). -/
def State.burstStarted (s : State) : Bool :=
  match s.front.loop, s.power.wakeStart with
  | .burst _, _ => true
  | .off, some w => decide (w + Config.burstDelay < s.now)
  | .off, none => false

/-- R154: a pulse the self-test takes is discarded before the burst and counted from its start. -/
def State.selfTestPulse (s : State) (period : Option Nat) : State :=
  if s.burstStarted then s.mapPower fun p => { p with tally := p.tally.map fun t => t.add period } else s

/-! ## Accepted pulses (R6, R7, R9) -/

/-- The consumers of R9. -/
inductive Consumer
  | selfTest
  | errorGate
  | timedUnit
  | nobody
  deriving DecidableEq, Repr

/-- R9: the gate takes pulses in WAITING-OPEN and OPEN. -/
def GateState.takesPulses : GateState → Bool
  | .waitingOpen => true
  | .opened => true
  | _ => false

/-- R9, chapter 4: the timed unit takes pulses in COUNTING and TRAILING. -/
def TimedState.takesPulses : TimedState → Bool
  | .counting => true
  | .trailing => true
  | _ => false

/-- R9: the first row that applies. -/
def State.consumer (s : State) : Consumer :=
  if s.line.link = .strapFault then .nobody
  else if s.power.state = .waking then .selfTest
  else if s.power.state = .awake ∧ s.gate.state.takesPulses = true then .errorGate
  else if s.power.state = .awake ∧ s.timed.state.takesPulses = true then .timedUnit
  else .nobody

/-- R6: the hand-over of a pulse with its time stamp and its period. -/
def State.routePulse (s : State) (stamp : Nat) (period : Option Nat) : State :=
  match s.consumer with
  | .selfTest => s.selfTestPulse period
  | .errorGate => s.gatePulse stamp period
  | .timedUnit => s.timedPulse stamp
  | .nobody => s

/-- R7: the period a pulse forms. -/
def FrontEnd.periodAt (f : FrontEnd) (stamp : Nat) : Option Nat := f.lastPulse.map fun t => periodBetween t stamp

/-- R3, R7: the pulse is accepted: the filter waits for release and the period measure is updated. -/
def FrontEnd.accept (f : FrontEnd) (stamp : Nat) : FrontEnd :=
  { f with input := .waitRelease, candidate := none, lastPulse := some stamp,
           lastPeriod := match f.periodAt stamp with | some p => some p | none => f.lastPeriod }

/-- R6: the acceptance of the candidate pulse. -/
def State.acceptPulse (s : State) : State :=
  match s.front.input, s.front.candidate with
  | .qualify, some stamp => (s.mapFront fun f => f.accept stamp).routePulse stamp (s.front.periodAt stamp)
  | _, _ => s

/-- R8, R10, R154 (log 31): the pulse that a restart of the filter met at its acceptance instant, `before` being the
front end before the restart, is handed to the consumer that the state after the restart names, with no period. A setting
changes only where no gate and no timed unit takes pulses (R22, R57, R73, R153), so the self-test alone can be that
consumer. -/
def State.handRestarted (s : State) (before : FrontEnd) : State :=
  match before.completing, s.front.candidate with
  | some _, none => if s.consumer = .selfTest then s.selfTestPulse none else s
  | _, _ => s

/-- R4: the release has held for W and the filter is re-armed. -/
def State.rearmFilter (s : State) : State :=
  if s.front.input = .qualifyRelease then s.mapFront fun f => { f with input := .waitEdge, releaseTime := none }
  else s

/-! ## Reference edges (R12 to R14) -/

/-- R12, R14: the counter and the reference seen flag at a rising edge of RFP. -/
def State.countEdge (s : State) : State :=
  s.mapFront fun f =>
    { f with counter := f.counter.edge, refSeen := f.refSeen || s.power.state == .waking }

/-- R12 to R14: a rising edge of RFP; it answers a PENDING request with its time stamp as t0. -/
def State.referenceEdge (s : State) : State :=
  if s.front.nextEdge then s.countEdge.commonStart s.now false else s.countEdge

end Sys2Proof.Machine
end

