-- ==== Sys2Proof/Machine/Events.lean ====
section
/-! DEFINITION. Local events and the passing of time (R1; log 1 to log 4). A local event is due at an instant that the
state gives; as time passes the station takes its local events in the order of their instants. -/

namespace Sys2Proof.Machine

/-- The local events: the twelve rows of the table that the station's own time base brings about. -/
inductive LocalEvent
  | pulseAccepted
  | filterRearm
  | referenceWaitExpiry
  | gatherTimerExpiry
  | stepDeadlineExpiry
  | musterWindowExpiry
  | durationEnd
  | pressDwellEnd
  | parkedDwellEnd
  | loopBurstStart
  | loopBurstEnd
  | wakingEnd
  deriving DecidableEq, Repr

/-- All of them, in the table's order. -/
def LocalEvent.all : List LocalEvent :=
  [.pulseAccepted, .filterRearm, .referenceWaitExpiry, .gatherTimerExpiry, .stepDeadlineExpiry, .musterWindowExpiry,
    .durationEnd, .pressDwellEnd, .parkedDwellEnd, .loopBurstStart, .loopBurstEnd, .wakingEnd]

/-! ## When each is due -/

/-- R3: candidate time plus W, in QUALIFY. -/
def FrontEnd.pulseDue (f : FrontEnd) : Option Nat :=
  if f.input = .qualify then f.candidate.map (· + f.widthMicros) else none

/-- R4: release time plus W, in QUALIFY-RELEASE. -/
def FrontEnd.rearmDue (f : FrontEnd) : Option Nat :=
  if f.input = .qualifyRelease then f.releaseTime.map (· + f.widthMicros) else none

/-- R118: the gather timer runs out only in GATHERING. -/
def Coordinator.gatherDue (c : Coordinator) : Option Nat := if c.run = .gathering then c.gatherEnd else none

/-- R115: the deadline passes in MEASURING, REPORTED or SUSPENDED with the expiry mark clear. -/
def Coordinator.deadlineDue (c : Coordinator) : Option Nat :=
  if c.run.triggered && !c.expired then c.deadline else none

/-- R63: the duration end, while the unit counts. -/
def TimedUnit.durationDue (u : TimedUnit) : Option Nat := if u.state.takesPulses then u.durationEnd else none

/-- R140: the dwell end, with the press ENERGISED. -/
def Press.dwellDue : Press → Option Nat
  | .off => none
  | .energised _ dwellEnd => some dwellEnd

/-- R152: parked-since plus 500 ms. -/
def PowerUnit.parkedDue (p : PowerUnit) : Option Nat :=
  if p.state = .parked then p.parkedSince.map (· + Config.parkedDwell) else none

/-- R153: wake start plus 50 ms, once: with the loop generator OFF and that instant not past (log 17). -/
def State.burstDue (s : State) : Option Nat :=
  match s.power.wakeStart with
  | some w =>
    if s.power.state = .waking ∧ s.front.loop = .off ∧ s.now ≤ w + Config.burstDelay then some (w + Config.burstDelay)
    else none
  | none => none

/-- R15: burst start plus 80 ms. -/
def LoopGen.endDue : LoopGen → Option Nat
  | .off => none
  | .burst start => some (start + Config.burstLength)

/-- R153: wake start plus 150 ms, in WAKING. -/
def PowerUnit.wakingDue (p : PowerUnit) : Option Nat :=
  if p.state = .waking then p.wakeStart.map (· + Config.wakingLength) else none

/-- The instant at which a local event is due; none where it is not to come. -/
def State.due (s : State) : LocalEvent → Option Nat
  | .pulseAccepted => s.front.pulseDue
  | .filterRearm => s.front.rearmDue
  | .referenceWaitExpiry => s.coord.waitEnd
  | .gatherTimerExpiry => s.coord.gatherDue
  | .stepDeadlineExpiry => s.coord.deadlineDue
  | .musterWindowExpiry => s.coord.windowEnd
  | .durationEnd => s.timed.durationDue
  | .pressDwellEnd => s.closure.press.dwellDue
  | .parkedDwellEnd => s.power.parkedDue
  | .loopBurstStart => s.burstDue
  | .loopBurstEnd => s.front.loop.endDue
  | .wakingEnd => s.power.wakingDue

/-! ## What each does -/

/-- R114: the reference wait runs out; t0 is its end and the start is reference-quiet. -/
def State.expireWait (s : State) : State :=
  match s.coord.waitEnd with
  | some t => s.commonStart t true
  | none => s

/-- R118: LAPSE(k, GATHER) is queued and the timer stopped. -/
def State.expireGather (s : State) : State :=
  match s.coord.step with
  | some k => (s.queueLapse k .gather).mapCoord fun c => { c with gatherEnd := none }
  | none => s.mapCoord fun c => { c with gatherEnd := none }

/-- R115: LAPSE(k, MEASURE) is queued and the expiry mark set. -/
def State.expireDeadline (s : State) : State :=
  match s.coord.step with
  | some k => (s.queueLapse k .measure).mapCoord fun c => { c with expired := true }
  | none => s.mapCoord fun c => { c with expired := true }

/-- R100: the muster window runs out. -/
def State.expireWindow (s : State) : State :=
  if s.coord.run = .enrolled then s.toHome.endEnrollment else s.endEnrollment

/-- R140: the dwell is over; the press outcome stays as it is. -/
def State.endDwell (s : State) : State := s.mapClosure fun c => { c with press := .off }

/-- R152: the parked dwell is over; a held closing enters WAKING. -/
def State.endParkedDwell (s : State) : State :=
  if s.power.heldClosing then s.enterWaking else s.mapPower fun p => { p with parkedSince := none }

/-- R15: the burst starts. -/
def State.startBurst (s : State) : State := (s.mapFront FrontEnd.loopStart).handRestarted s.front

/-- R15: the burst is complete. -/
def State.endBurst (s : State) : State := (s.mapFront FrontEnd.loopOff).handRestarted s.front

/-- R159: the self-test record of a judged WAKING. -/
def selfTestRecord (t : Tally) (refSeen : Bool) (now : Nat) : SelfTestRecord :=
  { passed := t.passes, count := t.count, smallest := t.smallest, largest := t.largest, refSeen := refSeen,
    endedAt := now }

/-- R99: whether a remembered MUSTER still fits the run state, the stored plan number and L. -/
def State.rememberedFits (s : State) : Bool :=
  match s.coord.remembered with
  | some m =>
    s.coord.run == .loaded && m.plan == s.plan.number && m.count.toNat == s.plan.length
  | none => false

/-- R99, self-test passed: the remembered MUSTER becomes AWAITING with PRESENT queued, or is dropped. -/
def State.settleMuster (s : State) : State :=
  if s.coord.stage = .remembered then
    if s.rememberedFits then
      (s.queuePresent s.plan.number).mapCoord fun c => { c with stage := .awaiting, remembered := none }
    else s.endEnrollment
  else s

/-- R99, self-test failed or clamp opened in WAKING: a remembered MUSTER is dropped. -/
def State.dropMuster (s : State) : State := if s.coord.stage = .remembered then s.endEnrollment else s

/-- R155: a self-test that passes makes the station AWAKE. -/
def State.wake (s : State) : State :=
  ((s.mapPower fun p => { p with state := .awake, wakeStart := none, tally := none }).assertCaln).settleMuster

/-- R155: a self-test that fails makes the station HEAD-FAULT. -/
def State.faultHead (s : State) : State :=
  ((((s.mapPower fun p => { p with state := .headFault, wakeStart := none, tally := none, hdpw := false }).releaseCaln).queueParked
    .headFault)).dropMuster

/-- R155, R159: the end of WAKING with a tally: the record is written and the station acts on the outcome. -/
def State.judgeSelfTest (s : State) (t : Tally) : State :=
  let written := s.mapPower fun p => { p with selfTest := some (selfTestRecord t s.front.refSeen s.now) }
  if t.passes then written.wake else written.faultHead

/-- R155: the end of WAKING. In WAKING the tally is present (R153). -/
def State.endWaking (s : State) : State := s.judgeSelfTest (s.power.tally.getD Tally.cleared)

/-- What a local event does to the state. -/
def State.fire (s : State) : LocalEvent → State
  | .pulseAccepted => s.acceptPulse
  | .filterRearm => s.rearmFilter
  | .referenceWaitExpiry => s.expireWait
  | .gatherTimerExpiry => s.expireGather
  | .stepDeadlineExpiry => s.expireDeadline
  | .musterWindowExpiry => s.expireWindow
  | .durationEnd => s.reachDuration
  | .pressDwellEnd => s.endDwell
  | .parkedDwellEnd => s.endParkedDwell
  | .loopBurstStart => s.startBurst
  | .loopBurstEnd => s.endBurst
  | .wakingEnd => s.endWaking

/-! ## The passing of time -/

/-- R76: the line phase is END from the end slot of the frame on the line, and IDLE from the end of the gap. -/
def LineInterface.passTime (l : LineInterface) (t : Nat) : LineInterface :=
  match l.phase, l.endSlot, l.gapEnd with
  | .frame, some e, _ => if e ≤ t then { l with phase := .endInterval, endSlot := none } else l
  | .gap, _, some g => if g ≤ t then { l with phase := .idle, gapEnd := none } else l
  | _, _, _ => l

/-- R1: the time base moves on to an instant; it never goes back. -/
def State.setTime (s : State) (t : Nat) : State :=
  (s.mapFront fun f => { f with timeBase := max f.timeBase t }).mapLine fun l => l.passTime (max s.now t)

/-- Whether a local event is due before an instant. -/
def State.dueBefore (s : State) (t : Nat) (e : LocalEvent) : Bool :=
  match s.due e with
  | some d => decide (d < t)
  | none => false

/-- Whether a local event is due now. -/
def State.dueNow (s : State) (e : LocalEvent) : Bool := s.dueBefore (s.now + 1) e

/-- The earlier of two instants, either of which may be absent. -/
def earlier : Option Nat → Option Nat → Option Nat
  | none, b => b
  | some a, none => some a
  | some a, some b => some (min a b)

/-- The earliest due instant before `t`, if a local event is due before it. -/
def State.firstDue (s : State) (t : Nat) : Option Nat :=
  (LocalEvent.all.filter (s.dueBefore t)).foldl (fun m e => earlier m (s.due e)) none

/-- One of the local events due now is taken; among several the free value decides (log 4). -/
def State.takeDue (s : State) : State :=
  match LocalEvent.all.filter s.dueNow with
  | [] => s
  | [e] => s.fire e
  | e :: rest =>
    { s with freeDraws := s.freeDraws + 1 }.fire
      ((e :: rest).getD (Config.freeOrder s.freeDraws % (rest.length + 1)) e)

/-- Time passes to the instant `t`, with at most `fuel` local events on the way, in the order of their instants. Local
events due at `t` itself are not taken. Time does not pass a local event that is not taken. -/
def State.passTo : Nat → Nat → State → State
  | 0, _, s => s
  | fuel + 1, t, s =>
    match s.firstDue t with
    | none => s.setTime t
    | some d => State.passTo fuel t (s.setTime d).takeDue

/-- `dt` µs pass. While RSTN is held low nothing happens (log 6). -/
def State.elapse (s : State) (dt : Nat) : State :=
  if s.rstnLow then s else State.passTo Config.eventFuel (s.now + dt) s

/-- A command at its instant: `after` µs pass, then it acts; while RSTN is held low it does not reach the station. -/
def State.atEvent (s : State) (after : Nat) (f : State → State) : Host.Outcome State Fault Refusal :=
  .next (if s.rstnLow then s else f (s.elapse after))

/-- A local event named by the sender: time passes to its due instant and the event is taken there, first among those
due at that instant; nothing happens where it is not to come (log 2). -/
def State.atDue (s : State) (e : LocalEvent) : State :=
  match s.due e with
  | none => s
  | some d =>
    let t := State.passTo Config.eventFuel (max s.now d) s
    if t.dueNow e then t.fire e else t

/-- The outcome of a local event named by the sender. -/
def State.atLocal (s : State) (e : LocalEvent) : Host.Outcome State Fault Refusal :=
  .next (if s.rstnLow then s else s.atDue e)

end Sys2Proof.Machine
end

