-- ==== Sys2Proof/Machine/Replies.lean ====
section
/-! DEFINITION. The records that a REPLY carries, read from the state at the start of an attempt (R164, R166 to R170),
in the forms of R173. A field that the record does not hold is sent as zero with its presence mark clear. -/

namespace Sys2Proof.Machine

/-! ## Field codes (R173) -/

def RunState.code : RunState → Nat
  | .idle => 0
  | .loaded => 1
  | .enrolled => 2
  | .gathering => 3
  | .measuring => 4
  | .reported => 5
  | .suspended => 6
  | .closing => 7
  | .closed => 8

def PowerState.code : PowerState → Nat
  | .parked => 0
  | .waking => 1
  | .awake => 2
  | .headFault => 3

def LinkState.code : LinkState → Nat
  | .normal => 0
  | .linkFault => 1
  | .duplicate => 2
  | .strapFault => 3

def EnrollStage.code : EnrollStage → Nat
  | .none => 0
  | .remembered => 1
  | .awaiting => 2

def SourceView.code : SourceView → Nat
  | .unknown => 0
  | .settled _ => 1
  | .disturbed => 2

/-- The load point, present with a source view of SETTLED (R166). -/
def SourceView.loadPoint : SourceView → Nat
  | .settled lp => lp
  | .unknown => 0
  | .disturbed => 0

def runVerdictCode : Option RunVerdict → Nat
  | none => 0
  | some .pass => 1
  | some .fail => 2

def StrikeReason.code : StrikeReason → Nat
  | .clampOpen => 0
  | .headFault => 1
  | .halt => 2
  | .reset => 3
  | .gatherLapse => 4

/-- 0 for ACTIVE, 1 plus the strike reason code for STRUCK (R173). -/
def Standing.value : Standing → Nat
  | .active => 0
  | .struck r => 1 + r.code

/-- 0 WAITING, 1 READY, 2 plus the verdict code for REPORTED (R173). -/
def Phase.value : Phase → Nat
  | .waiting => 0
  | .ready => 1
  | .reported v => 2 + (Verdict.code v).toNat

def PartialMark.code : PartialMark → Nat
  | .none => 0
  | .partly => 1
  | .late => 2

def PressOutcome.code : PressOutcome → Nat
  | .fired => 1
  | .cut => 2
  | .notFired => 3

def bitOf (b : Bool) : Nat := if b then 1 else 0

/-- Fields given as (width, value), the most significant first, as one number. -/
def packFields (fields : List (Nat × Nat)) : Nat :=
  fields.foldl (fun acc f => acc * 2 ^ f.1 + f.2 % 2 ^ f.1) 0

/-- One word of fields whose widths add up to 16. -/
def fieldWord (fields : List (Nat × Nat)) : Word := BitVec.ofNat 16 (packFields fields)

/-- A number of `n` words, the most significant word first. -/
def splitWords : Nat → Nat → List Word
  | 0, _ => []
  | n + 1, x => BitVec.ofNat 16 (x / 2 ^ (16 * n)) :: splitWords n x

/-! ## STATUS (R166) -/

/-- Word 4, bits 9–5: whether a step is in hand, and its index less 1. -/
def stepInHandFields (k : Option StepIx) : List (Nat × Nat) :=
  match k with
  | some i => [(1, 1), (4, i.val)]
  | none => [(1, 0), (4, 0)]

def State.statusPayload (s : State) : List Word :=
  [ fieldWord [(4, 1), (2, s.power.state.code), (2, s.line.link.code), (4, s.coord.run.code), (2, s.coord.stage.code),
      (2, runVerdictCode s.coord.verdict)]
  , s.plan.number
  , fieldWord [(5, s.plan.length), (5, s.plan.windowFirst), (5, s.plan.windowLast), (1, bitOf s.plan.overrun)]
  , fieldWord ([(5, s.plan.cursor), (1, bitOf s.plan.refused)] ++ stepInHandFields s.coord.step ++
      [(2, s.coord.restarts), (3, s.coord.holds)])
  , fieldWord [(2, s.coord.source.code), (8, s.coord.source.loadPoint), (6, 0)] ]

/-! ## RESULT (R167) -/

/-- The step kind code of a slot: 0 absent, 1 ERROR, 2 CREEP, 3 START, 4 UNKNOWN. -/
def slotKindCode : Option StepRecord → Nat
  | none => 0
  | some r =>
    match r.body with
    | .error _ => 1
    | .creep _ => 2
    | .start _ => 3
    | .unknown => 4

/-- The first value position: N for ERROR, the count for CREEP and START (R173). -/
def firstValue (slot : Option StepRecord) (x : ResultValues) : Option Nat :=
  match slot with
  | none => none
  | some r =>
    match r.body with
    | .error _ => x.n
    | .creep _ => x.count
    | .start _ => x.count
    | .unknown => none

/-- The second value position: R for ERROR, the elapsed time for CREEP and START (R173). -/
def secondValue (slot : Option StepRecord) (x : ResultValues) : Option Nat :=
  match slot with
  | none => none
  | some r =>
    match r.body with
    | .error _ => x.r
    | .creep _ => x.elapsed
    | .start _ => x.elapsed
    | .unknown => none

/-- The RESULT form of a record under a slot number as queried (R173). Bits 4–0 of word 2, which R173 does not name, are
sent as zero: the model's choice (log 32). -/
def resultWords (slotNumber : BitVec 5) (slot : Option StepRecord) (r : ResultRecord) : List Word :=
  [ fieldWord [(4, 2), (5, slotNumber.toNat), (3, slotKindCode slot), (4, r.attempt)]
  , fieldWord [(3, (Verdict.code r.verdict).toNat), (2, r.mark.code), (1, bitOf r.quiet), (1, bitOf r.values.clamped),
      (1, bitOf (firstValue slot r.values).isSome), (1, bitOf (secondValue slot r.values).isSome),
      (1, bitOf r.values.error.isSome), (1, bitOf r.values.lastPeriod.isSome), (5, 0)]
  , BitVec.ofNat 16 ((firstValue slot r.values).getD 0) ]
    ++ splitWords 2 ((secondValue slot r.values).getD 0)
    ++ wordsOf32 (BitVec.ofInt 32 (r.values.error.getD 0))
    ++ splitWords 2 (r.values.lastPeriod.getD 0)

/-- R167: slots 1..16 from the tables, slots 0 and 17..31 as an empty record. -/
def State.resultPayload (s : State) (slotNumber : BitVec 5) : List Word :=
  if h : 1 ≤ slotNumber.toNat ∧ slotNumber.toNat ≤ 16 then
    let k : StepIx := ⟨slotNumber.toNat - 1, by omega⟩
    resultWords slotNumber (s.slot k) (s.result k)
  else resultWords slotNumber none ResultRecord.blank

/-! ## CLOSURE (R168) -/

/-- The verdict code of step `i` counted from 0; zero beyond the list (R173). -/
def listVerdictCode (steps : List Verdict) (i : Nat) : Nat :=
  match steps[i]? with
  | some v => (Verdict.code v).toNat
  | none => 0

/-- Five verdicts from index `i`, in bits 15–1; bit 0, which R173 does not name, is sent as zero (log 32). -/
def verdictWord (steps : List Verdict) (i : Nat) : Word :=
  fieldWord [(3, listVerdictCode steps i), (3, listVerdictCode steps (i + 1)), (3, listVerdictCode steps (i + 2)),
    (3, listVerdictCode steps (i + 3)), (3, listVerdictCode steps (i + 4)), (1, 0)]

/-- The CLOSURE form of a BUILT record (R173). Bits 1–0 of word 1, 3–0 of word 6 and 4–0 of word 7, which R173 does not
name, are sent as zero: the model's choice (log 32). -/
def closureWords (r : ClosureRecord) : List Word :=
  [ fieldWord [(4, 3), (1, 1), (5, r.position.toNat), (1, bitOf (r.verdict == .pass)), (2, r.press.code),
      (1, bitOf (r.caln == .released)), (2, 0)]
  , r.plan
  , verdictWord r.steps 0
  , verdictWord r.steps 5
  , verdictWord r.steps 10
  , fieldWord [(3, listVerdictCode r.steps 15), (9, r.holds), (4, 0)]
  , fieldWord [(5, r.steps.length), (6, r.restarts), (5, 0)] ]

/-- R168: an EMPTY record has its built marker clear and every other field zero. -/
def State.closurePayload (s : State) : List Word :=
  match s.closure.record with
  | some r => closureWords r
  | none => fieldWord [(4, 3), (12, 0)] :: splitWords 6 0

/-! ## SELFTEST (R169) -/

def selfTestWords (r : SelfTestRecord) (now : Nat) : List Word :=
  fieldWord [(4, 4), (1, 1), (1, bitOf r.passed), (1, bitOf (r.smallest.isSome && r.largest.isSome)),
    (1, bitOf r.refSeen), (8, r.count)]
    :: (splitWords 2 (r.smallest.getD 0) ++ splitWords 2 (r.largest.getD 0)
      ++ [BitVec.ofNat 16 (selfTestAge now r.endedAt)])

def State.selfTestPayload (s : State) : List Word :=
  match s.power.selfTest with
  | some r => selfTestWords r s.now
  | none => fieldWord [(4, 4), (12, 0)] :: splitWords 5 0

/-! ## ROSTER (R170) -/

/-- The six-bit code of a position: 0 for NOT LISTED, else 1 plus 10 times standing plus phase (R173). -/
def positionCode (roster : List Member) (p : Position) : Nat :=
  match roster.find? (fun m => m.position == p) with
  | some m => 1 + 10 * m.standing.value + m.phase.value
  | none => 0

/-- The codes of positions 1..30 in ascending order, as one number of 180 bits. -/
def rosterCodes (roster : List Member) : Nat :=
  packFields ((List.range 30).map fun i => (6, positionCode roster (BitVec.ofNat 5 (i + 1))))

/-- 0 EMPTY, 1 LIVE, 2 KEPT (R170). A roster that R95 calls live and that holds no entries, as just after a MUSTER,
meets R170's words for LIVE and for EMPTY alike; the model sends EMPTY: its choice (log 33). -/
def Coordinator.rosterCondition (c : Coordinator) : Nat :=
  if c.roster = [] then 0 else if c.live then 1 else 2

def State.rosterPayload (s : State) : List Word :=
  splitWords 12 (((5 * 4 + s.coord.rosterCondition) * 2 ^ 180 + rosterCodes s.coord.roster) * 2 ^ 6)

/-! ## The contents of a REPLY (R164) -/

/-- The payload words of a REPLY, read from the named record as it stands. -/
def State.replyPayload (s : State) (r : ReplyRequest) : List Word :=
  match r.kind with
  | .status => s.statusPayload
  | .result => s.resultPayload r.slot
  | .closure => s.closurePayload
  | .selftest => s.selfTestPayload
  | .roster => s.rosterPayload

end Sys2Proof.Machine
end

