-- ==== Sys2Proof/Machine/LineEvents.lean ====
section
/-! DEFINITION. The line interface's operations (chapter 5): offering an entry, arbitration and read-back, the end of an
attempt, the taking of frames, and the commands ATTEMPT_START, FRAME_ABORTED, MALFORMED_FRAME and JOINING_END. -/

namespace Sys2Proof.Machine

/-! ## The queue while an attempt is on the line (R85, R86, R89, R90) -/

/-- The seven station kinds, in the order of service (R82, R85). -/
inductive StationKind
  | lapse
  | parked
  | done
  | ready
  | hold
  | present
  | reply
  deriving DecidableEq, Repr

/-- The kind of the frame in the transmit copy. -/
def stationKindOf : StationFrame → StationKind
  | .present _ => .present
  | .ready _ => .ready
  | .hold _ => .hold
  | .done .. => .done
  | .lapse .. => .lapse
  | .parked _ => .parked
  | .reply _ => .reply

/-- The bits that a DONE entry sends (R120, R172). -/
def DoneFrame.toFrame (d : DoneFrame) : StationFrame :=
  .done d.step d.verdict (BitVec.ofNat 4 d.attempt) (d.error.map fun e => BitVec.ofInt 21 e)

/-- R86: the frame of the entry of lowest priority value; a REPLY's contents are read now (R164). -/
def State.offer (s : State) : Option StationFrame :=
  match s.line.queue.lapse with
  | some e => some (.lapse e.frame.step e.frame.phase)
  | none =>
    match s.line.queue.parked with
    | some e => some (.parked e.frame)
    | none =>
      match s.line.queue.done with
      | some e => some e.frame.toFrame
      | none =>
        match s.line.queue.ready with
        | some e => some (.ready e.frame)
        | none =>
          match s.line.queue.hold with
          | some e => some (.hold e.frame)
          | none =>
            match s.line.queue.present with
            | some e => some (.present e.frame)
            | none => s.line.queue.reply.map fun e => .reply (s.replyPayload e.frame)

/-- What the end of an attempt, or its start, does to an entry of any frame type. -/
inductive EntryChange
  /-- the entry's frame is copied into the transmit copy -/
  | offer
  /-- the attempt was lost in arbitration: the entry keeps its count (R87) -/
  | lose
  /-- the attempt failed: the offered entry counts one more (R89) -/
  | fail
  /-- the frame was taken: the offered entry leaves the queue (R89) -/
  | take
  deriving DecidableEq, Repr

/-- R89, R90: only an entry still the offered one is counted or removed. -/
def EntryChange.apply {α : Type} (c : EntryChange) (e : Entry α) : Option (Entry α) :=
  match c with
  | .offer => some { e with offered := true }
  | .lose => some { e with offered := false }
  | .fail => some (if e.offered then { e with fails := e.fails + 1, offered := false } else e)
  | .take => if e.offered then none else some e

/-- A change of the entry of one kind. -/
def OutQueue.change (q : OutQueue) (k : StationKind) (c : EntryChange) : OutQueue :=
  match k with
  | .lapse => { q with lapse := q.lapse.bind c.apply }
  | .parked => { q with parked := q.parked.bind c.apply }
  | .done => { q with done := q.done.bind c.apply }
  | .ready => { q with ready := q.ready.bind c.apply }
  | .hold => { q with hold := q.hold.bind c.apply }
  | .present => { q with present := q.present.bind c.apply }
  | .reply => { q with reply := q.reply.bind c.apply }

/-- The failed-attempt count of the entry of one kind; 0 where there is none. -/
def OutQueue.fails (q : OutQueue) (k : StationKind) : Nat :=
  match k with
  | .lapse => (q.lapse.map (·.fails)).getD 0
  | .parked => (q.parked.map (·.fails)).getD 0
  | .done => (q.done.map (·.fails)).getD 0
  | .ready => (q.ready.map (·.fails)).getD 0
  | .hold => (q.hold.map (·.fails)).getD 0
  | .present => (q.present.map (·.fails)).getD 0
  | .reply => (q.reply.map (·.fails)).getD 0

/-! ## Starting an attempt (R86 to R88) -/

/-- What the read-back of an attempt makes of it. -/
inductive AttemptOutcome
  | won
  | lost
  | mismatch
  deriving DecidableEq, Repr

/-- R87, R88: at the first bit of the arbitration field that reads back other than sent, a recessive bit sent is a loss
and a dominant one an abort. The bits are sent highest first, so a loss reads back a smaller number. -/
def arbitrate (sent read : BitVec 9) (restMatches : Bool) : AttemptOutcome :=
  if read < sent then .lost
  else if sent < read then .mismatch
  else if restMatches then .won else .mismatch

/-- R86: the station may start: in NORMAL, with the line idle to it and no attempt of its own on the line. -/
def LineInterface.mayStart (l : LineInterface) : Bool := l.link == .normal && l.phase == .idle && l.role == .none

/-- R86: the entry's frame is copied into the transmit copy and the station contends. -/
def State.beginAttempt (s : State) (f : StationFrame) : State :=
  s.mapLine fun l =>
    { l with transmit := some f, role := .contending, phase := .frame, queue := l.queue.change (stationKindOf f) .offer }

/-- R87, R88: the attempt after its read-back. -/
def State.readBack (s : State) (f : StationFrame) (outcome : AttemptOutcome) : State :=
  match outcome with
  | .won => s.mapLine fun l => { l with role := .sending }
  | .mismatch => s.mapLine fun l => { l with role := .aborting }
  | .lost => s.mapLine fun l => { l.endAttempt with queue := l.queue.change (stationKindOf f) .lose }

/-- R75: the instant after `n` groups sent back to back from now. -/
def State.afterGroups (s : State) (n : Nat) : Nat := s.now + n * (Config.groupBits * Config.bitTime)

/-- R76: how many groups the frame on the line has: those of the own frame where it is sent whole. -/
def State.groupsOnLine (s : State) (f : StationFrame) (outcome : AttemptOutcome) (groups : Nat) : Nat :=
  match outcome with
  | .won => (f.words s.line.strap).length
  | .mismatch => groups
  | .lost => groups

/-- R86 to R88: the station's own start bit, for an entry that it may offer; the end slot follows the last group (R76). -/
def State.startAttempt (s : State) (arbRead : BitVec 9) (restMatches : Bool) (groups : Nat) : State :=
  if s.line.mayStart then
    match s.offer with
    | some f =>
      let outcome := arbitrate (f.arbitration s.line.strap) arbRead restMatches
      ((s.beginAttempt f).readBack f outcome).mapLine fun l =>
        { l with endSlot := some (s.afterGroups (s.groupsOnLine f outcome groups)) }
    | none => s
  else s

/-- R80: a JOINING station reads the line dominant until an instant; its count of recessive bit times starts there. -/
def LineInterface.dominantUntil (l : LineInterface) (t : Nat) : LineInterface :=
  { l with recessiveSince := max l.recessiveSince t }

/-- R76, R86: another party's start bit. On an idle line the phase is FRAME, with the end slot after the frame's groups;
to a JOINING station the line is dominant in the start bit of the last group at the latest (R80). In any other phase no
party starts a frame. -/
def State.hearStart (s : State) (groups : Nat) : State :=
  match s.line.phase with
  | .idle => s.mapLine fun l => { l with phase := .frame, endSlot := some (s.afterGroups groups) }
  | .joining => s.mapLine fun l => l.dominantUntil (s.afterGroups (groups - 1) + Config.bitTime)
  | .frame => s
  | .endInterval => s
  | .gap => s

/-- A start bit on the line (R76, R86 to R88). -/
def State.takeStart (s : State) (start : StartBit) (groups : Nat) : State :=
  match start with
  | .own arbRead restMatches => s.startAttempt arbRead restMatches groups
  | .peer => s.hearStart groups

/-! ## The end of a frame (R76, R78, R89) -/

/-- R76: the end interval is over; the gap follows and the receive record is empty between frames (R94). -/
def State.frameEnds (s : State) : State :=
  s.mapLine fun l =>
    { l with phase := .gap, endSlot := none, gapEnd := some (s.now + Config.gapLength),
             receive := ReceiveRecord.empty, abortDriven := false }

/-- R78: the receive record of the frame that is ending. -/
def State.receiveGroups (s : State) (groups : List Group) : State :=
  s.mapLine fun l =>
    { l with phase := .endInterval, receive := { words := groups.map Prod.fst, bad := frameBad groups } }

/-- R78, R88: the station drives the abort mark: a NORMAL receiver whose bad mark is set, or an ABORTING sender. -/
def LineInterface.drivesAbort (l : LineInterface) : Bool :=
  (l.link == .normal && l.receive.bad) || l.role == .aborting

/-- R89, R91: the offered entry counts a failed attempt; the sixteenth puts the station in LINK-FAULT. -/
def State.failAttempt (s : State) (f : StationFrame) : State :=
  let t := s.mapLine fun l => { l.endAttempt with queue := l.queue.change (stationKindOf f) .fail }
  if Config.maxFails ≤ t.line.queue.fails (stationKindOf f) then t.enterLinkFault else t

/-- R89: the attempt of this station, if it has one on the line, has failed. -/
def State.failOwnAttempt (s : State) : State :=
  match s.line.role, s.line.transmit with
  | .sending, some f => s.failAttempt f
  | .aborting, some f => s.failAttempt f
  | _, _ => s

/-- FRAME_ABORTED (R76, R78, R89): no party takes the frame. In STRAP-FAULT no abort mark is driven (R93). To a JOINING
station the line is dominant to the end of the abort mark (R80). -/
def State.abortFrame (s : State) (groups : List Group) : State :=
  if s.line.phase = .joining then s.mapLine fun l => l.dominantUntil s.now
  else
    let r := s.receiveGroups groups
    (r.frameEnds.mapLine fun l => { l with abortDriven := r.line.drivesAbort }).failOwnAttempt

/-! ## Taking frames (R79, R82, R84, R89, R92) -/

/-- R80: a JOINING station hears a frame of these groups end without an abort mark. The line was dominant until the
recessive bits that end the last group; the end slot and the end interval are recessive too (R76). -/
def State.hearFrame (s : State) (groups : List Group) : State :=
  s.mapLine fun l => l.dominantUntil (s.now - Config.bitTime * (Config.endBits + recessiveTail groups))

/-- A frame of these groups ends without an abort mark, and acts where the station takes frames (R79, R84). In JOINING it
is heard alone (R80). In STRAP-FAULT the station takes no frames (R93); that the line phase follows the frame there as
everywhere is the model's reading (log 29). -/
def State.passFrame (s : State) (groups : List Group) (f : State → State) : State :=
  if s.line.phase = .joining then s.hearFrame groups
  else if s.line.link = .strapFault then s.frameEnds
  else f s.frameEnds

/-- A frame of these words, which this station received without a bad mark, acts (R79, R84). -/
def State.takeFrame (s : State) (words : List Word) (f : State → State) : State := s.passFrame (groupsOf words) f

/-- A console frame acts where its selector matches the strap value (R83, R84). -/
def State.takeConsole (s : State) (words : List Word) (sel : Selector) (f : State → State) : State :=
  s.takeFrame words fun t => if sel.covers t.line.strap then f t else t

/-- HALT and RESET act at a station they match, and otherwise reach the coordinator with their selector (R84). -/
def State.takeSelective (s : State) (words : List Word) (sel : Selector) (matched other : State → State) : State :=
  s.takeFrame words fun t => if sel.covers t.line.strap then matched t else other t

/-- R79, R92: the frame is the one this station is sending. -/
def LineInterface.sends (l : LineInterface) (f : StationFrame) : Bool := l.role == .sending && l.transmit == some f

/-- R89: the offered entry is removed before the own frame is delivered. -/
def State.ownTaken (s : State) (f : StationFrame) : State :=
  s.mapLine fun l => { l.endAttempt with queue := l.queue.change (stationKindOf f) .take }

/-- R92: a frame bearing the station's own position that it was not sending. -/
def State.foreignOwn (s : State) : State :=
  if s.line.link = .normal ∨ s.line.link = .linkFault then s.enterDuplicate else s

/-- R82: the tie between the content of a station frame and its length. -/
def stationContentFits : StationFrame → Bool
  | .done _ v _ (some _) => v == .pass || v == .fail
  | .done _ _ _ none => true
  | .reply payload => lengthFits .reply payload
  | .present _ => true
  | .ready _ => true
  | .hold _ => true
  | .lapse _ _ => true
  | .parked _ => true

/-- R82: a station frame from a source position is well formed. -/
def stationFrameFits (f : StationFrame) (source : Position) : Bool := isStationPosition source && stationContentFits f

/-- A taken station frame once it is received: the own frame leaves the queue and acts (R89), another's that bears the
own position puts the station in DUPLICATE (R92), a peer's acts (R84). Operands that spell no well-formed frame are
treated as a malformed frame (R82; log 18). -/
def State.deliver (s : State) (source : Position) (f : StationFrame) (act : State → State) : State :=
  if source = s.line.strap then
    if stationFrameFits f source && s.line.sends f then act (s.ownTaken f) else s.foreignOwn
  else if stationFrameFits f source then act s else s

/-- A station frame is taken (R79, R82, R84, R89, R92). -/
def State.takeStation (s : State) (source : Position) (f : StationFrame) (act : State → State) : State :=
  s.takeFrame (f.words source) fun t => t.deliver source f act

/-- R79: the station marked the frame bad, and no abort mark came: it does not take the frame. A NORMAL station drives
the mark itself (R78), so such a frame is no event there (log 18). -/
def State.missFrame (s : State) (groups : List Group) : State :=
  if s.line.link = .normal ∧ s.line.phase ≠ .joining then s else s.passFrame groups id

/-- R82, R92, R163: the station takes a frame that brings it no command: ignored, but for the own position. -/
def State.ignoreFrame (s : State) (groups : List Group) : State :=
  s.passFrame groups fun t => if sourceOf (groups.map Prod.fst) = t.line.strap then t.foreignOwn else t

/-- MALFORMED_FRAME (R79, R82, R92, R163). Groups that spell a command of another row are no such event (log 18). -/
def State.takeMalformed (s : State) (groups : List Group) : State :=
  if frameBad groups then s.missFrame groups
  else if (commandOf 0 (groups.map Prod.fst)).isSome then s
  else s.ignoreFrame groups

/-- R80: 30 recessive bit times have passed. -/
def LineInterface.joined (l : LineInterface) (t : Nat) : Bool :=
  l.phase == .joining && decide (l.recessiveSince + Config.joiningLength ≤ t)

/-- JOINING_END (R80). Before 30 recessive bit times have passed it is no such event (log 29). -/
def State.endJoining (s : State) : State :=
  if s.line.joined s.now then s.mapLine fun l => { l with phase := .idle } else s

/-! ## The meanings -/

/-- JOINING_END (R80). -/
def execJoiningEnd (after : Nat) (s : State) : Host.Outcome State Fault Refusal := s.atEvent after State.endJoining

/-- ATTEMPT_START (R76, R86, R87, R88, R164). -/
def execAttemptStart (after : Nat) (start : StartBit) (groups : Nat) (s : State) : Host.Outcome State Fault Refusal :=
  s.atEvent after fun t => t.takeStart start groups

/-- FRAME_ABORTED (R78, R89, R91). -/
def execFrameAborted (after : Nat) (groups : List Group) (s : State) : Host.Outcome State Fault Refusal :=
  s.atEvent after fun t => t.abortFrame groups

/-- MALFORMED_FRAME (R79, R82, R92, R163). -/
def execMalformedFrame (after : Nat) (groups : List Group) (s : State) : Host.Outcome State Fault Refusal :=
  s.atEvent after fun t => t.takeMalformed groups

end Sys2Proof.Machine
end

