-- ==== Sys2Proof/Machine/Closure.lean ====
section
/-! DEFINITION. CLOSE and RELEASE (R136 to R142, R147). -/

namespace Sys2Proof.Machine

/-- R139: the verdicts of result records 1..L, in slot order. -/
def verdictList (results : ResultTable) (length : Nat) : List Verdict :=
  (results.toList.take length).map (·.verdict)

/-- R139: the closure record of a CLOSE. -/
def State.closureRecordOf (s : State) (v : RunVerdict) (press : PressOutcome) (caln : CalnOutcome) : ClosureRecord :=
  { position := s.line.strap, plan := s.plan.number, verdict := v,
    steps := verdictList s.coord.results s.plan.length, press := press, caln := caln,
    holds := s.coord.runHolds, restarts := s.coord.runRestarts }

/-- R140: the press is energised; only at an AWAKE station (R137). -/
def State.energisePress (s : State) : State :=
  if s.power.state = .awake then
    s.mapClosure fun c => { c with press := .energised s.now (s.now + Config.pressDwell) }
  else s

def State.keepRecord (s : State) (r : ClosureRecord) : State := s.mapClosure fun c => { c with record := some r }

/-- R137: a CLOSE with run verdict PASS. -/
def State.closePass (s : State) : State :=
  ((s.releaseCaln).energisePress).keepRecord (s.closureRecordOf .pass .fired .released)

/-- R138: a CLOSE with run verdict FAIL. -/
def State.closeFail (s : State) : State := s.keepRecord (s.closureRecordOf .fail .notFired .held)

/-- R137, R138: the run state becomes CLOSED with the run verdict formed. -/
def State.enterClosed (s : State) (v : RunVerdict) : State :=
  s.mapCoord fun c => { c with run := .closed, verdict := some v }

/-- R136: a CLOSE taken in CLOSING; it ends an enrollment (R103). -/
def State.closeRun (s : State) : State :=
  match runVerdictOf s.coord.results s.plan.length with
  | .pass => (s.closePass.enterClosed .pass).endMuster
  | .fail => (s.closeFail.enterClosed .fail).endMuster

/-- R141: the dwell of an energised press moves later by 400 ms, up to 1,200 ms in all. -/
def Press.extend : Press → Press
  | .off => .off
  | .energised first dwellEnd =>
    if dwellEnd < first + Config.pressLimit then .energised first (dwellEnd + Config.pressDwell)
    else .energised first dwellEnd

/-- R136: a matching CLOSE, by the run state. -/
def State.takeClose (s : State) : State :=
  match s.coord.run with
  | .closing => s.closeRun
  | .closed => s.mapClosure fun c => { c with press := c.press.extend }
  | _ => s

/-- R147: the record is emptied, the results are reset, the run verdict becomes absent. The run totals, which R145 excepts
and R147 does not name, are kept: the model's choice (log 39). -/
def State.releaseRun (s : State) : State :=
  (((s.cutPress).mapClosure fun c => { c with record := none }).mapCoord fun c =>
    { c with results := ResultTable.blank, verdict := none }).toRest

/-- R147: a matching RELEASE. -/
def State.takeRelease (s : State) : State := if s.coord.run = .closed then s.releaseRun else s

/-- CLOSE (R136 to R141). -/
def execClose (after : Nat) (sel : Selector) (s : State) : Host.Outcome State Fault Refusal :=
  s.atEvent after fun t => t.takeConsole (wordsOfCommand (.close after sel)) sel State.takeClose

/-- RELEASE (R147). -/
def execRelease (after : Nat) (sel : Selector) (s : State) : Host.Outcome State Fault Refusal :=
  s.atEvent after fun t => t.takeConsole (wordsOfCommand (.release after sel)) sel State.takeRelease

end Sys2Proof.Machine
end

