-- ==== Sys2Proof/Machine/Pins.lean ====
section
/-! DEFINITION. The pulse inputs: changes of MTP (R3, R4) and rising edges of RFP (R12 to R14). -/

namespace Sys2Proof.Machine

/-- R3, R4: a change of MTP to the level that the setting in force makes active. -/
def FrontEnd.becomeActive (f : FrontEnd) : FrontEnd :=
  match f.input with
  | .waitEdge =>
    { f with mtp := activeLevel f.inForce.edge, input := .qualify, candidate := some f.timeBase }
  | .qualifyRelease =>
    { f with mtp := activeLevel f.inForce.edge, input := .waitRelease, releaseTime := none }
  | .qualify => { f with mtp := activeLevel f.inForce.edge }
  | .waitRelease => { f with mtp := activeLevel f.inForce.edge }

/-- R3, R4: a change of MTP to the inactive level. -/
def FrontEnd.becomeInactive (f : FrontEnd) : FrontEnd :=
  match f.input with
  | .qualify =>
    { f with mtp := inactiveLevel f.inForce.edge, input := .waitEdge, candidate := none }
  | .waitRelease =>
    { f with mtp := inactiveLevel f.inForce.edge, input := .qualifyRelease, releaseTime := some f.timeBase }
  | .waitEdge => { f with mtp := inactiveLevel f.inForce.edge }
  | .qualifyRelease => { f with mtp := inactiveLevel f.inForce.edge }

/-- MTP_ACTIVE_CHANGE (R3, R4). -/
def execMtpActiveChange (after : Nat) (s : State) : Host.Outcome State Fault Refusal :=
  s.atEvent after fun t => t.mapFront FrontEnd.becomeActive

/-- MTP_INACTIVE_CHANGE (R3, R4). -/
def execMtpInactiveChange (after : Nat) (s : State) : Host.Outcome State Fault Refusal :=
  s.atEvent after fun t => t.mapFront FrontEnd.becomeInactive

/-- REFERENCE_EDGE (R12, R13, R14, R114). -/
def execReferenceEdge (after : Nat) (s : State) : Host.Outcome State Fault Refusal :=
  s.atEvent after State.referenceEdge

end Sys2Proof.Machine
end

