-- ==== Sys2Proof/Machine/PlanFrames.lean ====
section
/-! DEFINITION. PLAN and STEP (chapter 2). -/

namespace Sys2Proof.Machine

/-- R22, R28: the run states in which plan traffic is considered. -/
def RunState.takesPlan : RunState → Bool
  | .idle => true
  | .loaded => true
  | .closing => true
  | .enrolled => false
  | .gathering => false
  | .measuring => false
  | .reported => false
  | .suspended => false
  | .closed => false

/-- R22, R23: an ignored PLAN sets the plan refused flag and shuts the session. -/
def State.ignorePlan (s : State) : State := s.mapPlan fun p => { p with refused := true, sessionOpen := false }

/-- R24, R26: a new plan number empties the table and resets every result to verdict NONE with attempt 0; CLOSING and
LOADED become IDLE, and the run verdict of CLOSING becomes absent. R24 does not name the partial-or-late mark and the
reference-quiet mark: they go too, the model's choice (log 36). -/
def State.emptyForNewPlan (s : State) : State :=
  (s.mapPlan fun p => { p with slots := Vector.replicate 16 none }).mapCoord fun c =>
    { c with results := ResultTable.blank, run := .idle, step := none,
             verdict := if c.run = .closing then none else c.verdict }

/-- R24, R25: the plan record as an applied PLAN leaves it, beside its slots. -/
def PlanStore.apply (p : PlanStore) (x : PlanPayload) : PlanStore :=
  { p with number := x.number, fields := some (planFields x), windowFirst := planWindowFirst x,
           windowLast := planWindowLast x, cursor := planWindowFirst x, overrun := false, refused := false,
           sessionOpen := true }

/-- R2: the setting that an applied PLAN copies. -/
def planSettingOf (x : PlanPayload) : FilterSetting := { edge := (planFields x).edge, width := (planFields x).width }

/-- R24: the table of a PLAN with a new plan number is emptied, that of a patch is kept. -/
def State.emptyIfNew (s : State) (x : PlanPayload) : State :=
  if x.number = s.plan.number then s else s.emptyForNewPlan

/-- R24, R103: an applied PLAN. -/
def State.applyPlan (s : State) (x : PlanPayload) : State :=
  ((((s.emptyIfNew x).mapPlan fun p => p.apply x).mapFront fun f =>
    f.setPlanSetting (planSettingOf x)).handRestarted s.front).endMuster

/-- R22 to R24: a matching PLAN. -/
def State.takePlan (s : State) (x : PlanPayload) : State :=
  if s.coord.run.takesPlan && planContentGood x then s.applyPlan x else s.ignorePlan

/-- R28: a refused STEP sets the plan refused flag, and no slot is filled until a PLAN is applied: a session that is OPEN
becomes SHUT, the model's reading of how (log 37). -/
def State.refuseStep (s : State) : State := s.mapPlan fun p => { p with refused := true, sessionOpen := false }

/-- R29: the cursor has left the window. -/
def State.overrunWindow (s : State) : State := s.mapPlan fun p => { p with overrun := true }

/-- R36: in IDLE and LOADED the run state follows L; in CLOSING it stays. -/
def State.followLength (s : State) : State :=
  match s.coord.run with
  | .idle => s.toRest
  | .loaded => s.toRest
  | _ => s

/-- R30: the record is stored in the slot the cursor names, its result reset, the cursor advanced, L recomputed; an
enrollment in progress ends (R103). -/
def State.fillSlot (s : State) (k : StepIx) (r : StepRecord) : State :=
  ((((s.mapPlan fun p => { p with slots := p.slots.set k (some r), cursor := p.cursor + 1 }).setResult k
    ResultRecord.blank)).followLength).endMuster

/-- The slot that a cursor names, if it names one of the sixteen. -/
def slotAtCursor (cursor : Nat) : Option StepIx :=
  if h : cursor - 1 < 16 then if 1 ≤ cursor then some ⟨cursor - 1, h⟩ else none else none

/-- R29: a STEP that is not refused. -/
def State.admitStep (s : State) (x : StepPayload) : State :=
  if s.plan.windowFirst ≤ s.plan.cursor ∧ s.plan.cursor ≤ s.plan.windowLast then
    match slotAtCursor s.plan.cursor with
    | some k => s.fillSlot k (formStepRecord x)
    | none => s
  else s.overrunWindow

/-- R28, R29: a matching STEP. -/
def State.takeStep (s : State) (x : StepPayload) : State :=
  if s.coord.run.takesPlan && s.plan.sessionOpen then s.admitStep x else s.refuseStep

/-- PLAN (R22 to R26, R2, R103). -/
def execPlan (after : Nat) (sel : Selector) (x : PlanPayload) (s : State) : Host.Outcome State Fault Refusal :=
  s.atEvent after fun t => t.takeConsole (wordsOfCommand (.plan after sel x)) sel fun u => u.takePlan x

/-- STEP (R28 to R36, R103). -/
def execStep (after : Nat) (sel : Selector) (x : StepPayload) (s : State) : Host.Outcome State Fault Refusal :=
  s.atEvent after fun t => t.takeConsole (wordsOfCommand (.step after sel x)) sel fun u => u.takeStep x

end Sys2Proof.Machine
end

