-- ==== Sys2Proof/Machine/Power.lean ====
section
/-! DEFINITION. Clamp events (R151, R152, R156 to R158) and what the coordinator does at a clamp opening (R103, R132,
R135, R146). -/

namespace Sys2Proof.Machine

/-- R152: the parked dwell is over. At its very end the end of the dwell is still to be taken, and a closing is held
until it is (log 12). -/
def State.dwellOver (s : State) : Bool :=
  match s.power.parkedSince with
  | some p => decide (p + Config.parkedDwell < s.now)
  | none => true

/-- R151: the clamp level as the unit last saw it. -/
def State.setClamp (s : State) (c : ClampLevel) : State := s.mapPower fun p => { p with clamp := c }

/-- R152: a clamp closing taken in PARKED. -/
def State.closeParked (s : State) : State :=
  if s.dwellOver then s.enterWaking else s.mapPower fun p => { p with heldClosing := true }

/-- R151: what a clamp closing does beside the level. -/
def State.actOnClosing (s : State) : State := if s.power.state = .parked then s.closeParked else s

/-- CLAMP_CLOSING; in STRAP-FAULT it updates the clamp level alone (R151). -/
def State.clampCloses (s : State) : State :=
  if s.line.link = .strapFault then s.setClamp .closed else (s.setClamp .closed).actOnClosing

/-- R103, R135: the run state becomes LOADED, the run verdict absent. -/
def State.loadedAtOpening (s : State) : State := (s.mapCoord fun c => { c with verdict := none }).toLoaded

/-- R132: a run ended by the clamp. -/
def State.runEndedByClamp (s : State) : State :=
  match s.coord.step with
  | some k => s.clampEndsRun k
  | none => s

/-- R103: an enrollment ended by the clamp, from AWAITING or ENROLLED. -/
def State.enrollmentEndedByClamp (s : State) : State := s.endEnrollment.loadedAtOpening

/-- R157: the coordinator's action at a clamp opening in AWAKE. -/
def State.coordinatorAtOpening (s : State) : State :=
  match s.coord.run with
  | .gathering => s.runEndedByClamp
  | .measuring => s.runEndedByClamp
  | .reported => s.runEndedByClamp
  | .suspended => s.runEndedByClamp
  | .enrolled => s.enrollmentEndedByClamp
  | .closing => s.endMuster.loadedAtOpening
  | .closed => s
  | .idle => if s.coord.stage = .none then s else s.enrollmentEndedByClamp
  | .loaded => if s.coord.stage = .none then s else s.enrollmentEndedByClamp

/-- R157: a clamp opening in AWAKE; the press is cut and CALN released (R142, R143). -/
def State.openAwake (s : State) : State := ((s.coordinatorAtOpening.cutPress).enterParked).queueParked .clampOpen

/-- R156: a clamp opening in WAKING; the burst is aborted (R16) and a remembered MUSTER dropped (R99). -/
def State.openWaking (s : State) : State :=
  ((((s.mapFront FrontEnd.loopOff).cutPress).enterParked).queueParked .clampOpen).dropMuster

/-- R158: a clamp opening in HEAD-FAULT. -/
def State.openHeadFault (s : State) : State := s.cutPress.enterParked

/-- R152: a clamp opening in PARKED clears a held closing. -/
def State.openParked (s : State) : State := s.cutPress.mapPower fun p => { p with heldClosing := false }

/-- R151: what a clamp opening does beside the level. -/
def State.actOnOpening (s : State) : State :=
  match s.power.state with
  | .parked => s.openParked
  | .waking => s.openWaking
  | .awake => s.openAwake
  | .headFault => s.openHeadFault

/-- CLAMP_OPENING; in STRAP-FAULT it updates the clamp level alone (R151). -/
def State.clampOpens (s : State) : State :=
  if s.line.link = .strapFault then s.setClamp .opened else (s.setClamp .opened).actOnOpening

/-- CLAMP_CLOSING (R151, R152, R153). -/
def execClampClosing (after : Nat) (s : State) : Host.Outcome State Fault Refusal := s.atEvent after State.clampCloses

/-- CLAMP_OPENING (R151, R152, R156, R157, R158). -/
def execClampOpening (after : Nat) (s : State) : Host.Outcome State Fault Refusal := s.atEvent after State.clampOpens

end Sys2Proof.Machine
end

