-- ==== Sys2Proof/Machine/Queries.lean ====
section
/-! DEFINITION. The five QUERY rows (R163): each queues a REPLY entry that names its record kind; only RESULT carries a
slot. -/

namespace Sys2Proof.Machine

/-- QUERY for STATUS (R163, R166). -/
def execQueryStatus (after : Nat) (sel : Selector) (s : State) : Host.Outcome State Fault Refusal :=
  s.atEvent after fun t => t.takeConsole (wordsOfCommand (.queryStatus after sel)) sel fun u =>
    u.queueReply .status 0

/-- QUERY for RESULT (R163, R167). -/
def execQueryResult (after : Nat) (sel : Selector) (slot : BitVec 5) (s : State) : Host.Outcome State Fault Refusal :=
  s.atEvent after fun t => t.takeConsole (wordsOfCommand (.queryResult after sel slot)) sel fun u =>
    u.queueReply .result slot

/-- QUERY for CLOSURE (R163, R168). -/
def execQueryClosure (after : Nat) (sel : Selector) (s : State) : Host.Outcome State Fault Refusal :=
  s.atEvent after fun t => t.takeConsole (wordsOfCommand (.queryClosure after sel)) sel fun u =>
    u.queueReply .closure 0

/-- QUERY for SELFTEST (R163, R169). -/
def execQuerySelftest (after : Nat) (sel : Selector) (s : State) : Host.Outcome State Fault Refusal :=
  s.atEvent after fun t => t.takeConsole (wordsOfCommand (.querySelftest after sel)) sel fun u =>
    u.queueReply .selftest 0

/-- QUERY for ROSTER (R163, R170). -/
def execQueryRoster (after : Nat) (sel : Selector) (s : State) : Host.Outcome State Fault Refusal :=
  s.atEvent after fun t => t.takeConsole (wordsOfCommand (.queryRoster after sel)) sel fun u =>
    u.queueReply .roster 0

end Sys2Proof.Machine
end

