-- ==== Sys2Proof/Machine/Reset.lean ====
section
/-! DEFINITION. Power-on, pin reset and RSTN held low (R17, R37, R38, R60, R74, R94, R108, R133, R148, R161). -/

namespace Sys2Proof.Machine

/-- R93: the link state that a strap value gives. -/
def linkOfStraps (straps : Position) : LinkState := if isStationPosition straps then .normal else .strapFault

/-- R17: the plan setting of a plan record; the default while it holds no plan. -/
def PlanStore.filterSetting (p : PlanStore) : FilterSetting :=
  match p.fields with
  | some f => { edge := f.edge, width := f.width }
  | none => FilterSetting.default

/-- R17: the input state at a reset, from the level of MTP under the setting in force. -/
def inputAtReset (mtp : Level) (setting : FilterSetting) : InputState :=
  if mtp = activeLevel setting.edge then .waitRelease else .waitEdge

/-- Every block after a power-on or a pin reset, before a WAKING is entered: the plan store as given, the run state as
given. -/
def State.restarted (s : State) (straps : Position) (clamp : ClampLevel) (mtp : Level) (plan : PlanStore)
    (run : RunState) : State :=
  { front := FrontEnd.afterReset mtp plan.filterSetting (inputAtReset mtp plan.filterSetting)
    plan := plan
    gate := ErrorGate.idle
    timed := TimedUnit.idle
    line := LineInterface.afterReset straps (linkOfStraps straps)
    coord := Coordinator.afterReset run
    closure := ClosureUnit.afterReset
    power := PowerUnit.afterReset clamp
    rstnLow := false
    freeDraws := s.freeDraws
    pending := s.pending }

/-- R161: the station starts from the straps and the clamp; a clamped station with valid straps enters WAKING at the
reset. -/
def State.start (s : State) (straps : Position) (clamp : ClampLevel) (mtp : Level) (plan : PlanStore)
    (run : RunState) : State :=
  if clamp = .closed ∧ isStationPosition straps = true then (s.restarted straps clamp mtp plan run).enterWaking
  else s.restarted straps clamp mtp plan run

/-- R38: what a pin reset keeps of the plan store: all of it, with the load session SHUT (R21). -/
def PlanStore.keptAtPinReset (p : PlanStore) : PlanStore := { p with sessionOpen := false }

/-- The station while RSTN is held low: it drives no line, PRSS is off, CALN released, a burst aborted (R16, R94,
R148). All else keeps its value, and a pulse met at the abort goes to no consumer: the model's choice (log 6; log 31). -/
def State.holdReset (s : State) : State :=
  { (((s.mapLine LineInterface.endAttempt).mapClosure fun c => { c with press := .off, caln := .released }).mapFront
      FrontEnd.loopOff) with rstnLow := true }

/-- POWER_ON (R161, R37, R17, R60, R74, R94, R108, R133, R148). -/
def execPowerOn (straps : Position) (clamp : ClampLevel) (mtp : Level) (s : State) :
    Host.Outcome State Fault Refusal :=
  .next (s.start straps clamp mtp PlanStore.empty .idle)

/-- PIN_RESET (R161, R38, R21, R17, R60, R74, R94, R108, R133, R148). -/
def execPinReset (straps : Position) (clamp : ClampLevel) (mtp : Level) (s : State) :
    Host.Outcome State Fault Refusal :=
  .next (s.start straps clamp mtp s.plan.keptAtPinReset s.plan.restState)

/-- RSTN_HELD_LOW (R94). -/
def execRstnHeldLow (after : Nat) (s : State) : Host.Outcome State Fault Refusal := s.atEvent after State.holdReset

end Sys2Proof.Machine
end

