-- ==== Sys2Proof/Machine/RunFrames.lean ====
section
/-! DEFINITION. MUSTER, RUN and HALT (R97, R98, R101 to R103, R106, R131). -/

namespace Sys2Proof.Machine

/-! ## MUSTER -/

/-- R97, R98: the MUSTER names the stored plan number and L. -/
def State.musterFits (s : State) (plan : BitVec 16) (count : BitVec 5) : Bool :=
  plan == s.plan.number && count.toNat == s.plan.length

/-- R97: the run states in which a MUSTER is considered in AWAKE. -/
def RunState.takesMuster : RunState → Bool
  | .loaded => true
  | .closing => true
  | .enrolled => true
  | _ => false

/-- R97: the home state of an enrollment that starts; an ENROLLED station keeps the one it has. -/
def Coordinator.homeAtMuster (c : Coordinator) : Option HomeState :=
  match c.run with
  | .loaded => some .loaded
  | .closing => some .closing
  | _ => c.home

/-- R97: in ENROLLED the run state returns to the home state. -/
def State.leaveEnrolled (s : State) : State := if s.coord.run = .enrolled then s.toHome else s

/-- R97: the roster is emptied, the window started, PRESENT queued, and the stage becomes AWAITING. -/
def State.enroll (s : State) (plan : BitVec 16) : State :=
  ((s.leaveEnrolled).mapCoord fun c =>
    { c with roster := [], home := s.coord.homeAtMuster, windowEnd := some (s.now + Config.musterWindow),
             stage := .awaiting }).queuePresent plan

/-- R98: the MUSTER is remembered; nothing is queued. -/
def State.remember (s : State) (plan : BitVec 16) (count : BitVec 5) : State :=
  s.mapCoord fun c =>
    { c with roster := [], remembered := some { plan := plan, count := count }, home := some .loaded,
             windowEnd := some (s.now + Config.musterWindow), stage := .remembered }

/-- R97, R98, R160: a matching MUSTER, by the power state. -/
def State.takeMuster (s : State) (plan : BitVec 16) (count : BitVec 5) : State :=
  if s.musterFits plan count then
    match s.power.state with
    | .awake => if s.coord.run.takesMuster then s.enroll plan else s
    | .waking => if s.coord.run = .loaded then s.remember plan count else s
    | .parked => s
    | .headFault => s
  else s

/-! ## RUN -/

/-- R101: a RUN taken in ENROLLED that fits. -/
def State.beginRun (s : State) (k : StepIx) : State :=
  (s.mapCoord fun c =>
    { c with results := clearResultsFrom k s.plan.length c.results, runHolds := 0, runRestarts := 0, verdict := none,
             windowEnd := none, home := none }).enterGathering k

/-- The step of a number 1..16. -/
def stepOfNumber (n : Nat) : Option StepIx := if h : 1 ≤ n ∧ n ≤ 16 then some ⟨n - 1, by omega⟩ else none

/-- R101: the first step of a RUN, where it lies in 1..L. -/
def State.firstStep (s : State) (first : BitVec 5) : Option StepIx :=
  if first.toNat ≤ s.plan.length then stepOfNumber first.toNat else none

/-- R101: a RUN taken in ENROLLED. -/
def State.runEnrolled (s : State) (plan : BitVec 16) (first : BitVec 5) : State :=
  match s.firstStep first with
  | some k => if plan = s.plan.number then s.beginRun k else s
  | none => s

/-- R101, R102: a matching RUN. -/
def State.takeRun (s : State) (plan : BitVec 16) (first : BitVec 5) : State :=
  if s.coord.run = .enrolled then s.runEnrolled plan first else s.endMuster

/-! ## HALT -/

/-- R131, R103: a HALT that matches the station. -/
def State.haltHere (s : State) : State :=
  match s.coord.run, s.coord.step with
  | .gathering, some k => s.haltRun k
  | .measuring, some k => s.haltRun k
  | .reported, some k => s.haltRun k
  | .suspended, some k => s.haltRun k
  | .enrolled, _ => s.toHome.endEnrollment
  | _, _ => s.endMuster

/-- R106, R107: the ACTIVE entries that a selector matches are struck where the roster is live, and the trigger or
completion test follows. -/
def State.strikeSelected (s : State) (sel : Selector) (reason : StrikeReason) : State :=
  if s.coord.live then
    (s.mapRoster (strikeWhere (fun m => sel.covers m.position) reason)).testAfterStrike
  else s

/-- MUSTER (R97, R98). -/
def execMuster (after : Nat) (sel : Selector) (plan : BitVec 16) (count : BitVec 5) (s : State) :
    Host.Outcome State Fault Refusal :=
  s.atEvent after fun t =>
    t.takeConsole (wordsOfCommand (.muster after sel plan count)) sel fun u => u.takeMuster plan count

/-- RUN (R101, R102). -/
def execRun (after : Nat) (sel : Selector) (plan : BitVec 16) (first : BitVec 5) (s : State) :
    Host.Outcome State Fault Refusal :=
  s.atEvent after fun t =>
    t.takeConsole (wordsOfCommand (.run after sel plan first)) sel fun u => u.takeRun plan first

/-- HALT (R103, R106, R131). -/
def execHalt (after : Nat) (sel : Selector) (s : State) : Host.Outcome State Fault Refusal :=
  s.atEvent after fun t =>
    t.takeSelective (wordsOfCommand (.halt after sel)) sel State.haltHere fun u => u.strikeSelected sel .halt

end Sys2Proof.Machine
end

