-- ==== Sys2Proof/Machine/ResetFrames.lean ====
section
/-! DEFINITION. RESET with scope RUN and scope ALL (R18, R37, R38, R57, R73, R94, R107, R108, R133, R148, R162). -/

namespace Sys2Proof.Machine

/-- R18: the front end at a bench reset of either scope. -/
def FrontEnd.benchReset (f : FrontEnd) : FrontEnd :=
  { f.resetPeriod with counter := RefCounter.cleared, nextEdge := false }

/-- R94: the line interface at a bench reset. -/
def LineInterface.benchReset (l : LineInterface) : LineInterface :=
  { l.endAttempt with
    link := if l.link = .linkFault then .normal else l.link
    receive := ReceiveRecord.empty
    queue := OutQueue.empty }

/-- R108, R133: the coordinator at a bench reset, with the run state and the run verdict it leaves; the source view is
kept. -/
def Coordinator.benchReset (c : Coordinator) (run : RunState) (verdict : Option RunVerdict) : Coordinator :=
  { Coordinator.afterReset run with source := c.source, verdict := verdict }

/-- R38, R133: the run state after a RESET with scope RUN. -/
def State.runAfterResetRun (s : State) : RunState :=
  if s.coord.run = .closed then .closed else s.plan.restState

/-- R108: the run verdict after a RESET with scope RUN. -/
def State.verdictAfterResetRun (s : State) : Option RunVerdict :=
  if s.coord.run = .closed then s.coord.verdict else none

/-- A RESET with scope RUN at a station it matches. -/
def State.resetRunHere (s : State) : State :=
  { s with
    front := s.front.benchReset
    gate := ErrorGate.idle
    timed := TimedUnit.idle
    line := s.line.benchReset
    coord := s.coord.benchReset s.runAfterResetRun s.verdictAfterResetRun
    closure := s.closure.cutPress }

/-- R148: the closure unit at a RESET with scope ALL; CALN is unchanged. -/
def ClosureUnit.resetAll (c : ClosureUnit) : ClosureUnit := { c with record := none, press := .off }

/-- A RESET with scope ALL at a station it matches. -/
def State.resetAllHere (s : State) : State :=
  { s with
    front := s.front.benchReset.setPlanSetting FilterSetting.default
    plan := PlanStore.empty
    gate := ErrorGate.idle
    timed := TimedUnit.idle
    line := s.line.benchReset
    coord := s.coord.benchReset .idle none
    closure := s.closure.resetAll }.handRestarted s.front

/-- RESET with scope RUN (R133, R107). -/
def execResetRun (after : Nat) (sel : Selector) (s : State) : Host.Outcome State Fault Refusal :=
  s.atEvent after fun t =>
    t.takeSelective (wordsOfCommand (.resetRun after sel)) sel State.resetRunHere fun u => u.strikeSelected sel .reset

/-- RESET with scope ALL (R37, R107). -/
def execResetAll (after : Nat) (sel : Selector) (s : State) : Host.Outcome State Fault Refusal :=
  s.atEvent after fun t =>
    t.takeSelective (wordsOfCommand (.resetAll after sel)) sel State.resetAllHere fun u => u.strikeSelected sel .reset

end Sys2Proof.Machine
end

