-- ==== Sys2Proof/Machine/Source.lean ====
section
/-! DEFINITION. SETTLED and DISTURBED (R110, R113, R125 to R127). -/

namespace Sys2Proof.Machine

def State.setSource (s : State) (v : SourceView) : State := s.mapCoord fun c => { c with source := v }

/-- R126: the suspension mark is set and the view is settled at the load point of the step in hand. -/
def State.restartHolds (s : State) : Bool :=
  match s.coord.step with
  | some k => s.coord.suspension && s.coord.source.settledAt (s.slot k)
  | none => false

/-- R110, R113, R126: a SETTLED. -/
def State.takeSettled (s : State) (loadPoint : BitVec 8) : State :=
  let t := s.setSource (.settled loadPoint.toNat)
  if t.restartHolds then t.restartStep else t.triggerTest

/-- R125: the step is suspended, by the run state. -/
def State.suspend (s : State) (k : StepIx) : State :=
  match s.coord.run with
  | .measuring => s.suspendStep k
  | .reported => s.suspendReported
  | _ => s

/-- R127: the fourth disturbance, by the run state. In REPORTED a trailing count is final. -/
def State.exhaust (s : State) (k : StepIx) : State :=
  match s.coord.run with
  | .measuring => s.voidStep k
  | .reported => s.voidStep k
  | _ => s

/-- R125, R127: what a DISTURBED does to the step in hand. -/
def State.disturbStep (s : State) (k : StepIx) : State :=
  if s.coord.suspension then s
  else if s.coord.restarts < Config.maxRestarts then s.suspend k
  else s.exhaust k

/-- R110, R125, R127: a DISTURBED. -/
def State.takeDisturbed (s : State) : State :=
  let t := s.setSource .disturbed
  match t.coord.step with
  | some k => if t.coord.run.triggered then t.disturbStep k else t
  | none => t

/-- SETTLED (R110, R113, R126). -/
def execSettled (after : Nat) (loadPoint : BitVec 8) (s : State) : Host.Outcome State Fault Refusal :=
  s.atEvent after fun t => t.takeFrame (wordsOfCommand (.settled after loadPoint)) fun u => u.takeSettled loadPoint

/-- DISTURBED (R110, R125, R127). -/
def execDisturbed (after : Nat) (s : State) : Host.Outcome State Fault Refusal :=
  s.atEvent after fun t => t.takeFrame (wordsOfCommand (.disturbed after)) State.takeDisturbed

end Sys2Proof.Machine
end

