-- ==== Sys2Proof/Machine/Station.lean ====
section
/-! DEFINITION. The station frames: PRESENT, READY, HOLD, DONE, LAPSE, PARKED, REPLY (R96, R105, R112, R116, R119,
R121, R122, R124, R165). -/

namespace Sys2Proof.Machine

/-! ## PRESENT (R96) -/

/-- R96: the plan number a PRESENT must carry. -/
def State.presentPlan (s : State) : BitVec 16 :=
  match s.coord.stage, s.coord.remembered with
  | .remembered, some m => m.plan
  | _, _ => s.plan.number

/-- R96: the own PRESENT in AWAITING makes the station ENROLLED. -/
def State.becomeEnrolled (s : State) (source : Position) : State :=
  if source = s.line.strap ∧ s.coord.stage = .awaiting then
    s.mapCoord fun c => { c with run := .enrolled, stage := .none }
  else s

/-- R96: a PRESENT. -/
def State.takePresent (s : State) (source : Position) (plan : BitVec 16) : State :=
  if s.coord.collecting && plan == s.presentPlan then
    (s.mapRoster (enterRoster source)).becomeEnrolled source
  else s

/-! ## READY and LAPSE of the gather phase (R112, R119) -/

/-- The frame names the step in hand and comes from an ACTIVE member (R128). -/
def State.fromMember (s : State) (source : Position) (k : StepIx) : Bool :=
  s.coord.step == some k && activeAt source s.coord.roster

/-- R112: a READY. -/
def State.takeReady (s : State) (source : Position) (k : StepIx) : State :=
  if s.coord.run = .gathering ∧ s.fromMember source k = true then
    (s.mapRoster (setPhaseAt source .ready)).triggerTest
  else s

/-- R119: every ACTIVE entry that is WAITING is struck, the gather timer stopped, the own LAPSE withdrawn. -/
def State.strikeWaiting (s : State) (k : StepIx) : State :=
  ((s.mapRoster (strikeWhere (fun m => m.phase == .waiting) .gatherLapse)).mapCoord fun c =>
    { c with gatherEnd := none }).withdrawLapse k .gather

/-- R119: the run ends where the own entry was struck; otherwise the trigger is tested. -/
def State.afterGatherLapse (s : State) : State :=
  if activeAt s.line.strap s.coord.roster then s.triggerTest else s.endRun

/-- R119: a LAPSE of the gather phase. -/
def State.takeLapseGather (s : State) (source : Position) (k : StepIx) : State :=
  if s.coord.run = .gathering ∧ s.fromMember source k = true then (s.strikeWaiting k).afterGatherLapse else s

/-! ## HOLD (R116) -/

/-- R116: a HOLD within the allowance is counted and moves a deadline that is present. -/
def State.countHold (s : State) (r : StepRecord) : State :=
  let t := s.mapCoord fun c => { c with holds := c.holds + 1, runHolds := c.runHolds + 1 }
  match s.coord.deadline with
  | some d => t.changeDeadline (some (d + r.extension * Config.second))
  | none => t

/-- R116: a HOLD is weighed against the allowance of the slot. -/
def State.weighHold (s : State) (k : StepIx) : State :=
  match s.slot k with
  | some r => if s.coord.holds < r.allowance then s.countHold r else s
  | none => s

/-- R116: a HOLD. -/
def State.takeHold (s : State) (source : Position) (k : StepIx) : State :=
  if s.coord.run.triggered && s.fromMember source k then s.weighHold k else s

/-! ## DONE (R121, R122) -/

/-- R121: LAPSE(k, MEASURE) is queued afresh where the step is not complete and the deadline has passed. -/
def State.lapseAfresh (s : State) (k : StepIx) : State :=
  if s.coord.expired && !allReported s.coord.roster then s.queueLapse k .measure else s

/-- R121: the own DONE. -/
def State.reportOwn (s : State) (k : StepIx) (v : Verdict) : State :=
  (((((s.mapRoster (setPhaseAt s.line.strap (.reported v))).mapCoord fun c => { c with run := .reported }).withdrawLapse
    k .measure).lapseAfresh k)).completionTest

/-- R121: the own DONE acts in MEASURING alone. -/
def State.takeOwnDone (s : State) (k : StepIx) (v : Verdict) : State :=
  if s.coord.run = .measuring ∧ s.coord.step = some k then s.reportOwn k v else s

/-- R122: the DONE of a peer. -/
def State.takePeerDone (s : State) (source : Position) (k : StepIx) (v : Verdict) : State :=
  if s.coord.run.triggered && s.fromMember source k then
    (s.mapRoster (setPhaseAt source (.reported v))).completionTest
  else s

/-- R121, R122: a DONE. -/
def State.takeDone (s : State) (source : Position) (k : StepIx) (v : Verdict) : State :=
  if source = s.line.strap then s.takeOwnDone k v else s.takePeerDone source k v

/-! ## LAPSE of the measure phase (R124) -/

/-- R124: the result of a station that has not reported is INCOMPLETE; its pending DONE is withdrawn. -/
def State.lapseResult (s : State) (k : StepIx) : State :=
  if s.coord.run = .reported then s
  else (s.setResult k (s.endedRecord k ResultRecord.lateDone)).withdrawDone

/-- R124: a LAPSE of the measure phase completes the step. -/
def State.takeLapseMeasure (s : State) (source : Position) (k : StepIx) : State :=
  if s.coord.run.triggered && s.fromMember source k then
    ((s.lapseResult k).mapRoster (reportRest .incomplete)).completeStep k
  else s

/-! ## PARKED (R105) -/

def ParkedReason.strike : ParkedReason → StrikeReason
  | .clampOpen => .clampOpen
  | .headFault => .headFault

/-- R105, R160: a PARKED strikes its sender in a live roster; the own PARKED has no effect. -/
def State.takeParked (s : State) (source : Position) (reason : ParkedReason) : State :=
  if source = s.line.strap then s
  else if s.coord.live then
    (s.mapRoster (strikeWhere (fun m => m.position == source) (ParkedReason.strike reason))).testAfterStrike
  else s

/-! ## The meanings -/

/-- PRESENT (R96). -/
def execPresent (after : Nat) (source : Position) (plan : BitVec 16) (s : State) : Host.Outcome State Fault Refusal :=
  s.atEvent after fun t => t.takeStation source (.present plan) fun u => u.takePresent source plan

/-- READY (R112, R113). -/
def execReady (after : Nat) (source : Position) (k : StepIx) (s : State) : Host.Outcome State Fault Refusal :=
  s.atEvent after fun t => t.takeStation source (.ready k) fun u => u.takeReady source k

/-- HOLD (R116, R117). -/
def execHold (after : Nat) (source : Position) (k : StepIx) (s : State) : Host.Outcome State Fault Refusal :=
  s.atEvent after fun t => t.takeStation source (.hold k) fun u => u.takeHold source k

/-- DONE (R121 to R123, R129, R130). -/
def execDone (after : Nat) (source : Position) (k : StepIx) (verdict : Verdict) (attempt : BitVec 4)
    (error : Option (BitVec 21)) (s : State) : Host.Outcome State Fault Refusal :=
  s.atEvent after fun t =>
    t.takeStation source (.done k verdict attempt error) fun u => u.takeDone source k verdict

/-- LAPSE of the gather phase (R119). -/
def execLapseGather (after : Nat) (source : Position) (k : StepIx) (s : State) : Host.Outcome State Fault Refusal :=
  s.atEvent after fun t => t.takeStation source (.lapse k .gather) fun u => u.takeLapseGather source k

/-- LAPSE of the measure phase (R124). -/
def execLapseMeasure (after : Nat) (source : Position) (k : StepIx) (s : State) : Host.Outcome State Fault Refusal :=
  s.atEvent after fun t => t.takeStation source (.lapse k .measure) fun u => u.takeLapseMeasure source k

/-- PARKED (R105). -/
def execParked (after : Nat) (source : Position) (reason : ParkedReason) (s : State) :
    Host.Outcome State Fault Refusal :=
  s.atEvent after fun t => t.takeStation source (.parked reason) fun u => u.takeParked source reason

/-- REPLY (R165): it changes nothing but the line interface. -/
def execReply (after : Nat) (source : Position) (payload : List Word) (s : State) : Host.Outcome State Fault Refusal :=
  s.atEvent after fun t => t.takeStation source (.reply payload) fun u => u

end Sys2Proof.Machine
end

