-- ==== Sys2Proof/Machine/Timers.lean ====
section
/-! DEFINITION. The twelve local events as commands: each is taken at its own due instant (log 2). -/

namespace Sys2Proof.Machine

/-- PULSE_ACCEPTED (R6). -/
def execPulseAccepted (s : State) : Host.Outcome State Fault Refusal := s.atLocal .pulseAccepted

/-- FILTER_REARM (R4). -/
def execFilterRearm (s : State) : Host.Outcome State Fault Refusal := s.atLocal .filterRearm

/-- REFERENCE_WAIT_EXPIRY (R114). -/
def execReferenceWaitExpiry (s : State) : Host.Outcome State Fault Refusal := s.atLocal .referenceWaitExpiry

/-- GATHER_TIMER_EXPIRY (R118). -/
def execGatherTimerExpiry (s : State) : Host.Outcome State Fault Refusal := s.atLocal .gatherTimerExpiry

/-- STEP_DEADLINE_EXPIRY (R115). -/
def execStepDeadlineExpiry (s : State) : Host.Outcome State Fault Refusal := s.atLocal .stepDeadlineExpiry

/-- MUSTER_WINDOW_EXPIRY (R100). -/
def execMusterWindowExpiry (s : State) : Host.Outcome State Fault Refusal := s.atLocal .musterWindowExpiry

/-- DURATION_END (R63, R64, R65). -/
def execDurationEnd (s : State) : Host.Outcome State Fault Refusal := s.atLocal .durationEnd

/-- PRESS_DWELL_END (R140). -/
def execPressDwellEnd (s : State) : Host.Outcome State Fault Refusal := s.atLocal .pressDwellEnd

/-- PARKED_DWELL_END (R152). -/
def execParkedDwellEnd (s : State) : Host.Outcome State Fault Refusal := s.atLocal .parkedDwellEnd

/-- LOOP_BURST_START (R15). -/
def execLoopBurstStart (s : State) : Host.Outcome State Fault Refusal := s.atLocal .loopBurstStart

/-- LOOP_BURST_END (R15). -/
def execLoopBurstEnd (s : State) : Host.Outcome State Fault Refusal := s.atLocal .loopBurstEnd

/-- WAKING_END (R155). -/
def execWakingEnd (s : State) : Host.Outcome State Fault Refusal := s.atLocal .wakingEnd

end Sys2Proof.Machine
end

