-- ==== Sys2Proof/Machine/Dispatch.lean ====
section
/-! DEFINITION. The effect of a command on everything but the queue: one arm for each row of spec/opcode_table.json. -/

namespace Sys2Proof.Machine

def exec (i : Instr) (s : State) : Host.Outcome State Fault Refusal :=
  match i with
  | .powerOn straps clamp mtp => Sys2Proof.Machine.execPowerOn straps clamp mtp s
  | .pinReset straps clamp mtp => Sys2Proof.Machine.execPinReset straps clamp mtp s
  | .joiningEnd after => Sys2Proof.Machine.execJoiningEnd after s
  | .mtpActiveChange after => Sys2Proof.Machine.execMtpActiveChange after s
  | .mtpInactiveChange after => Sys2Proof.Machine.execMtpInactiveChange after s
  | .pulseAccepted => Sys2Proof.Machine.execPulseAccepted s
  | .filterRearm => Sys2Proof.Machine.execFilterRearm s
  | .referenceEdge after => Sys2Proof.Machine.execReferenceEdge after s
  | .referenceWaitExpiry => Sys2Proof.Machine.execReferenceWaitExpiry s
  | .gatherTimerExpiry => Sys2Proof.Machine.execGatherTimerExpiry s
  | .stepDeadlineExpiry => Sys2Proof.Machine.execStepDeadlineExpiry s
  | .musterWindowExpiry => Sys2Proof.Machine.execMusterWindowExpiry s
  | .durationEnd => Sys2Proof.Machine.execDurationEnd s
  | .pressDwellEnd => Sys2Proof.Machine.execPressDwellEnd s
  | .parkedDwellEnd => Sys2Proof.Machine.execParkedDwellEnd s
  | .loopBurstStart => Sys2Proof.Machine.execLoopBurstStart s
  | .loopBurstEnd => Sys2Proof.Machine.execLoopBurstEnd s
  | .wakingEnd => Sys2Proof.Machine.execWakingEnd s
  | .clampClosing after => Sys2Proof.Machine.execClampClosing after s
  | .clampOpening after => Sys2Proof.Machine.execClampOpening after s
  | .attemptStart after start groups => Sys2Proof.Machine.execAttemptStart after start groups s
  | .frameAborted after groups => Sys2Proof.Machine.execFrameAborted after groups s
  | .malformedFrame after groups => Sys2Proof.Machine.execMalformedFrame after groups s
  | .plan after sel payload => Sys2Proof.Machine.execPlan after sel payload s
  | .step after sel payload => Sys2Proof.Machine.execStep after sel payload s
  | .muster after sel plan count => Sys2Proof.Machine.execMuster after sel plan count s
  | .run after sel plan first => Sys2Proof.Machine.execRun after sel plan first s
  | .halt after sel => Sys2Proof.Machine.execHalt after sel s
  | .resetRun after sel => Sys2Proof.Machine.execResetRun after sel s
  | .resetAll after sel => Sys2Proof.Machine.execResetAll after sel s
  | .close after sel => Sys2Proof.Machine.execClose after sel s
  | .release after sel => Sys2Proof.Machine.execRelease after sel s
  | .queryStatus after sel => Sys2Proof.Machine.execQueryStatus after sel s
  | .queryResult after sel slot => Sys2Proof.Machine.execQueryResult after sel slot s
  | .queryClosure after sel => Sys2Proof.Machine.execQueryClosure after sel s
  | .querySelftest after sel => Sys2Proof.Machine.execQuerySelftest after sel s
  | .queryRoster after sel => Sys2Proof.Machine.execQueryRoster after sel s
  | .settled after loadPoint => Sys2Proof.Machine.execSettled after loadPoint s
  | .disturbed after => Sys2Proof.Machine.execDisturbed after s
  | .present after source plan => Sys2Proof.Machine.execPresent after source plan s
  | .ready after source k => Sys2Proof.Machine.execReady after source k s
  | .hold after source k => Sys2Proof.Machine.execHold after source k s
  | .done after source k verdict attempt error => Sys2Proof.Machine.execDone after source k verdict attempt error s
  | .lapseGather after source k => Sys2Proof.Machine.execLapseGather after source k s
  | .lapseMeasure after source k => Sys2Proof.Machine.execLapseMeasure after source k s
  | .parked after source reason => Sys2Proof.Machine.execParked after source reason s
  | .reply after source payload => Sys2Proof.Machine.execReply after source payload s
  | .rstnHeldLow after => Sys2Proof.Machine.execRstnHeldLow after s

end Sys2Proof.Machine
end

