-- ==== Sys2Proof/Machine/Step.lean ====
section
/-! DEFINITION. One step of the station: the command at the front of its queue, or the passing of 1 µs. -/

namespace Sys2Proof.Machine

/-- The queue without its front command. -/
def State.withPending (s : State) (q : List Instr) : State := { s with pending := q }

/-- The front command is taken and run on the state with the queue's rest; on an empty queue 1 µs passes (log 3). -/
def step (s : State) : Host.Outcome State Fault Refusal :=
  match s.pending with
  | c :: rest => exec c (s.withPending rest)
  | [] => .next (s.elapse 1)

/-- The command that a word spells, put at the front of the queue; no word of the table spells one. -/
def State.withFetchWord (s : State) (nbits w : Nat) : State :=
  match decodeTableWord nbits w with
  | some c => s.withPending (c :: s.pending)
  | none => s

end Sys2Proof.Machine
end

