-- ==== Sys2Proof/Safety.lean ====
section
/-! DEFINITION. What holds in every state that a run from reset reaches, block by block, in the terms the claims use. All
are decidable. -/

namespace Sys2Proof.Machine

/-- A condition on a value that may be absent; an absent value meets it. -/
def holdsIfPresent {α : Type} (x : Option α) (p : α → Bool) : Bool :=
  match x with
  | some a => p a
  | none => true

/-! ## Line interface -/

/-- R85, R89: an entry's failed-attempt count is 0..15. -/
def entryBounded {α : Type} (e : Option (Entry α)) : Bool := holdsIfPresent e fun x => decide (x.fails < Config.maxFails)

def OutQueue.bounded (q : OutQueue) : Bool :=
  entryBounded q.lapse && entryBounded q.parked && entryBounded q.done && entryBounded q.ready && entryBounded q.hold
    && entryBounded q.present && entryBounded q.reply

/-- R85, R86, R91 to R93: the counts are bounded, the transmit copy is present exactly with an attempt, only a NORMAL
station attempts, a STRAP-FAULT station holds no entry, and the link state fits the straps. R76: an end slot is to come
only in FRAME, and the end of a gap exactly in GAP. -/
abbrev State.lineSafe (s : State) : Prop :=
  s.line.queue.bounded = true
  ∧ (s.line.role = .none ↔ s.line.transmit = none)
  ∧ (s.line.link ≠ .normal → s.line.role = .none)
  ∧ (s.line.link = .strapFault ↔ isStationPosition s.line.strap = false)
  ∧ (s.line.link = .strapFault → s.line.queue = OutQueue.empty)
  ∧ (s.line.endSlot.isSome = true → s.line.phase = .frame)
  ∧ (s.line.gapEnd.isSome = true ↔ s.line.phase = .gap)

/-! ## Plan store -/

/-- The stored ranges of the step table (chapter 2, The step table). -/
def StepBody.inRange : StepBody → Bool
  | .error f =>
    decide (1 ≤ f.gate) && decide (f.gate ≤ 65_535) && decide (f.lower.natAbs ≤ Config.errorLimit)
      && decide (f.upper.natAbs ≤ Config.errorLimit) && decide (1 ≤ f.extension) && decide (f.extension ≤ 600)
  | .creep f => decide (100 ≤ f.duration) && decide (f.duration ≤ 3_600_000) && decide (f.threshold ≤ 255)
  | .start f =>
    decide (100 ≤ f.duration) && decide (f.duration ≤ 3_600_000) && decide (1 ≤ f.threshold)
      && decide (f.threshold ≤ 255)
  | .unknown => true

def StepRecord.inRange (r : StepRecord) : Bool :=
  r.body.inRange && decide (r.loadPoint ≤ 255) && decide (1 ≤ r.baseDeadline) && decide (r.baseDeadline ≤ 3_601)
    && decide (r.allowance ≤ 7) && (!r.valid || decide (1 ≤ r.loadPoint))

/-- R20, R21, R25, R29, R31 to R35: the window and the cursor, the presence of the plan-wide fields, and the ranges of
every filled slot. -/
abbrev State.planSafe (s : State) : Prop :=
  1 ≤ s.plan.windowFirst ∧ s.plan.windowFirst ≤ s.plan.windowLast ∧ s.plan.windowLast ≤ 16
  ∧ s.plan.windowFirst ≤ s.plan.cursor ∧ s.plan.cursor ≤ s.plan.windowLast + 1
  ∧ (s.plan.number = 0 ↔ s.plan.fields = none)
  ∧ (s.plan.sessionOpen = true → s.plan.number ≠ 0)
  ∧ (s.plan.number = 0 → s.plan.slots = Vector.replicate 16 none)
  ∧ (s.plan.slots.toList.all fun slot => holdsIfPresent slot StepRecord.inRange) = true

/-! ## Roster -/

/-- Positions strictly ascending. -/
def ascending : List Member → Bool
  | [] => true
  | [_] => true
  | m :: n :: rest => decide (m.position < n.position) && ascending (n :: rest)

/-- R95: entries in ascending order of position, none twice, never 0 or 31. -/
abbrev State.rosterSafe (s : State) : Prop :=
  ascending s.coord.roster = true ∧ (s.coord.roster.all fun m => isStationPosition m.position) = true

/-! ## Results -/

/-- R47, R114: an error within ±999,999 ppm and an attempt of 0..15. -/
def ResultRecord.inRange (r : ResultRecord) : Bool :=
  decide (r.attempt ≤ Config.maxAttempt)
    && holdsIfPresent r.values.error fun e => decide (e.natAbs ≤ Config.errorLimit)

/-- R47, R114, R120: the range of every result record and of the error the gate holds. -/
abbrev State.resultSafe (s : State) : Prop :=
  (s.coord.results.toList.all ResultRecord.inRange) = true
  ∧ holdsIfPresent s.gate.error (fun e => decide (e.natAbs ≤ Config.errorLimit)) = true

/-! ## Reference counter -/

/-- R11, R12: the value saturates at its maximum, and the overrange mark is set exactly there. -/
abbrev State.counterSafe (s : State) : Prop :=
  s.front.counter.value ≤ Config.counterMax
  ∧ (s.front.counter.overrange = true ↔ s.front.counter.value = Config.counterMax)

/-! ## Power -/

/-- No local event but the step deadline is overdue. A deadline can be: a HOLD may move a deadline long past by too
little (R117). -/
def State.timely (s : State) : Bool :=
  LocalEvent.all.all fun e => e == .stepDeadlineExpiry || holdsIfPresent (s.due e) fun d => decide (s.now ≤ d)

/-- R15, R153: a burst started 50 ms into the current WAKING. -/
def State.burstFits (s : State) : Bool :=
  match s.front.loop, s.power.wakeStart with
  | .off, _ => true
  | .burst b, some w => b == w + Config.burstDelay
  | .burst _, none => false

/-- R144, R150 to R154: the clamp, HDPW and CALN fit the power state; the wake start and the tally are present in WAKING
alone; a closing is held in PARKED alone; a burst runs in WAKING alone, from 50 ms to 130 ms. -/
abbrev State.powerSafe (s : State) : Prop :=
  (s.power.state ≠ .parked → s.power.clamp = .closed ∧ s.line.link ≠ .strapFault)
  ∧ (s.power.hdpw = true ↔ s.power.state = .waking ∨ s.power.state = .awake)
  ∧ (s.closure.caln = .asserted → s.power.state = .awake)
  ∧ (s.power.wakeStart.isSome = true ↔ s.power.state = .waking)
  ∧ (s.power.tally.isSome = true ↔ s.power.state = .waking)
  ∧ (s.power.heldClosing = true →
      s.power.state = .parked ∧ s.power.clamp = .closed ∧ s.power.parkedSince.isSome = true)
  ∧ (s.power.parkedSince.isSome = true → s.power.state = .parked ∧ s.line.link ≠ .strapFault)
  ∧ s.burstFits = true
  ∧ s.timely = true

/-! ## Run -/

/-- R36: a run state other than IDLE needs a plan length, IDLE has none. -/
abbrev State.lengthSafe (s : State) : Prop := s.coord.run = .idle ↔ s.plan.length = 0

/-- R97, R98, R150: the enrollment and the run fit the power state. -/
abbrev State.enrollSafe (s : State) : Prop :=
  (s.coord.run = .enrolled ∨ s.coord.run.stepping = true ∨ s.coord.run = .closing → s.power.state = .awake)
  ∧ (s.coord.stage = .awaiting → s.power.state = .awake ∧ (s.coord.run = .loaded ∨ s.coord.run = .closing))
  ∧ (s.coord.stage = .remembered → s.power.state = .waking ∧ s.coord.run = .loaded)
  ∧ (s.coord.remembered.isSome = true ↔ s.coord.stage = .remembered)
  ∧ (s.coord.home.isSome = true ↔ s.coord.stage ≠ .none ∨ s.coord.run = .enrolled)
  ∧ (s.coord.windowEnd.isSome = true ↔ s.coord.stage ≠ .none ∨ s.coord.run = .enrolled)

/-- The holds counted and the restarts of the step in hand (R116, R125). -/
def State.countsFit (s : State) : Bool :=
  match s.coord.step with
  | some k => holdsIfPresent (s.slot k) fun r => decide (s.coord.holds ≤ r.allowance)
  | none => true

/-- The step in hand is a step of the plan. -/
def State.stepInPlan (s : State) : Bool :=
  match s.coord.step with
  | some k => decide (stepNumber k ≤ s.plan.length)
  | none => false

/-- R13, R111, R113, R115, R123, R125, R130: the step in hand, its timers, marks and counts fit the run state. -/
abbrev State.stepSafe (s : State) : Prop :=
  (s.coord.run.stepping = true → s.stepInPlan = true)
  ∧ (s.coord.run = .idle ∨ s.coord.run = .loaded → s.coord.step = none)
  ∧ (s.coord.gatherEnd.isSome = true → s.coord.run = .gathering)
  ∧ (s.coord.waitEnd.isSome = true → s.coord.run = .measuring ∨ s.coord.run = .reported)
  ∧ (s.front.nextEdge = true ↔ s.coord.waitEnd.isSome = true)
  ∧ (s.coord.run.triggered = false →
      s.coord.deadline = none ∧ s.coord.expired = false ∧ s.coord.suspension = false ∧ s.coord.holds = 0
        ∧ s.coord.restarts = 0)
  ∧ (s.coord.run = .suspended → s.coord.suspension = true)
  ∧ (s.coord.run.triggered = true → s.countsFit = true)
  ∧ s.coord.restarts ≤ Config.maxRestarts
  ∧ (s.coord.suspension = true → s.coord.restarts < Config.maxRestarts)

/-- R95, R113: in a live roster the own entry, if listed, is ACTIVE; a member of a run is listed. -/
abbrev State.memberSafe (s : State) : Prop :=
  (s.coord.live = true → (s.coord.roster.all fun m => m.position != s.line.strap || m.isActive) = true)
  ∧ (s.coord.run = .enrolled ∨ s.coord.run.stepping = true → activeAt s.line.strap s.coord.roster = true)

/-- R130, R136: a run verdict is held in CLOSING and CLOSED, and by an enrollment that started from CLOSING. -/
abbrev State.verdictSafe (s : State) : Prop :=
  (s.coord.run = .closing ∨ s.coord.run = .closed → s.coord.verdict.isSome = true)
  ∧ (s.coord.verdict.isSome = true →
      s.coord.run = .closing ∨ s.coord.run = .closed ∨ (s.coord.run = .enrolled ∧ s.coord.home = some .closing))

/-! ## Measuring units -/

/-- R42: N never exceeds the gate length. -/
def ErrorGate.countFits (g : ErrorGate) : Bool :=
  match g.state, g.n, g.settings with
  | .opened, some n, some x => decide (n < x.gate)
  | .closed, some n, some x => n == x.gate
  | .waitingOpen, none, some x => decide (1 ≤ x.gate)
  | .armed, none, some x => decide (1 ≤ x.gate)
  | .idle, none, none => true
  | _, _, _ => false

/-- R11, R39, R42, R59, R61, R74: a unit is busy only for the step in hand of a step that has triggered, never both; the
counter counts exactly in an open gate; N never exceeds the gate length. -/
abbrev State.unitSafe (s : State) : Prop :=
  (s.gate.state ≠ .idle → s.coord.run.triggered = true ∧ s.gate.step = s.coord.step)
  ∧ (s.timed.state ≠ .idle →
      s.coord.run.triggered = true ∧ s.timed.step = s.coord.step ∧ s.timed.settings.isSome = true)
  ∧ (s.gate.state = .idle ∨ s.timed.state = .idle)
  ∧ (s.front.counter.counting = true ↔ s.gate.state = .opened)
  ∧ s.gate.countFits = true

/-! ## The sealing outputs -/

/-- R140, R141: the dwell runs, and its end is the first-energise time plus 400, 800 or 1,200 ms. -/
def Press.dwellFits (p : Press) (now : Nat) : Bool :=
  match p with
  | .off => true
  | .energised first dwellEnd =>
    decide (first ≤ now) && decide (now ≤ dwellEnd)
      && (dwellEnd == first + 400_000 || dwellEnd == first + 800_000 || dwellEnd == first + 1_200_000)

/-- R140, R141: PRSS is driven only in CLOSED with run verdict PASS, AWAKE with the clamp closed, and for at most
1,200 ms. -/
abbrev State.pressSafe (s : State) : Prop :=
  (s.closure.press ≠ .off →
    s.coord.run = .closed ∧ s.coord.verdict = some .pass ∧ s.power.state = .awake ∧ s.power.clamp = .closed)
  ∧ s.closure.press.dwellFits s.now = true

/-- All of them together: what every step keeps. -/
abbrev State.safe (s : State) : Prop :=
  s.lineSafe ∧ s.planSafe ∧ s.rosterSafe ∧ s.resultSafe ∧ s.counterSafe ∧ s.powerSafe ∧ s.lengthSafe ∧ s.enrollSafe
  ∧ s.stepSafe ∧ s.memberSafe ∧ s.verdictSafe ∧ s.unitSafe ∧ s.pressSafe

/-! ## When a command reaches the station -/

/-- A command that carries `after` reaches the station in the state `u`: RSTN is high and `after` µs have passed. -/
abbrev State.reaches (s : State) (after : Nat) (u : State) : Prop := s.rstnLow = false ∧ u = s.elapse after

/-- The station takes frames: it is not joining and its straps name a position (R79, R80, R93). -/
abbrev State.onLine (s : State) : Prop := s.line.phase ≠ .joining ∧ s.line.link ≠ .strapFault

/-- The line after a frame has been taken: the gap of three bit times follows (R76), the receive record is empty (R94). -/
def State.afterFrame (u : State) : State :=
  { u with line := { u.line with phase := .gap, endSlot := none, gapEnd := some (u.now + 24),
                                 receive := ReceiveRecord.empty, abortDriven := false } }

/-- A JOINING station once the line was dominant until an instant (R80). -/
def State.dominant (u : State) (t : Nat) : State :=
  { u with line := { u.line with recessiveSince := max u.line.recessiveSince t } }

/-- A JOINING station once it has heard the groups of a frame end without an abort mark (R76, R80): the line has been
recessive for the end slot, the two bit times of the end interval and the recessive bits that end the last group. -/
def State.heard (u : State) (groups : List Group) : State := u.dominant (u.now - 8 * (3 + recessiveTail groups))

/-- A source frame is taken in the state `u`. -/
abbrev State.takes (s : State) (after : Nat) (u : State) : Prop :=
  s.rstnLow = false ∧ (s.elapse after).onLine ∧ u = (s.elapse after).afterFrame

/-- A console frame that matches the station is taken in the state `u` (R83, R84). -/
abbrev State.takesMatching (s : State) (after : Nat) (sel : Selector) (u : State) : Prop :=
  s.takes after u ∧ sel.covers u.line.strap = true

/-- A console frame that does not match the station is taken in the state `u`. -/
abbrev State.takesOther (s : State) (after : Nat) (sel : Selector) (u : State) : Prop :=
  s.takes after u ∧ sel.covers u.line.strap = false

/-- The frame of a peer is taken in the state `u`. -/
abbrev State.takesPeer (s : State) (after : Nat) (source : Position) (f : StationFrame) (u : State) : Prop :=
  s.takes after u ∧ stationFrameFits f source = true ∧ source ≠ u.line.strap

/-- The station's own frame is taken in the state `u`: the offered entry has left the queue and the attempt is over
(R89). -/
abbrev State.takesOwn (s : State) (after : Nat) (source : Position) (f : StationFrame) (u : State) : Prop :=
  s.rstnLow = false ∧ (s.elapse after).onLine ∧ stationFrameFits f source = true
  ∧ source = (s.elapse after).line.strap ∧ (s.elapse after).line.role = .sending
  ∧ (s.elapse after).line.transmit = some f
  ∧ u = { (s.elapse after).afterFrame with
          line := { (s.elapse after).afterFrame.line with
                    queue := (s.elapse after).line.queue.change (stationKindOf f) .take
                    transmit := none, role := .none } }

/-- A station frame is taken in the state `u`, be it a peer's or the station's own. -/
abbrev State.takesStation (s : State) (after : Nat) (source : Position) (f : StationFrame) (u : State) : Prop :=
  s.takesPeer after source f u ∨ s.takesOwn after source f u

/-- A local event is next: it is due at an instant not past, no local event is due before that, and `u` is the state at
that instant. -/
abbrev State.meets (s : State) (e : LocalEvent) (u : State) : Prop :=
  s.rstnLow = false ∧ s.due e = some u.now ∧ s.now ≤ u.now ∧ (∀ e', s.dueBefore u.now e' = false)
  ∧ u = s.setTime u.now

/-- The row of the table that a local event is. -/
def LocalEvent.command : LocalEvent → Instr
  | .pulseAccepted => .pulseAccepted
  | .filterRearm => .filterRearm
  | .referenceWaitExpiry => .referenceWaitExpiry
  | .gatherTimerExpiry => .gatherTimerExpiry
  | .stepDeadlineExpiry => .stepDeadlineExpiry
  | .musterWindowExpiry => .musterWindowExpiry
  | .durationEnd => .durationEnd
  | .pressDwellEnd => .pressDwellEnd
  | .parkedDwellEnd => .parkedDwellEnd
  | .loopBurstStart => .loopBurstStart
  | .loopBurstEnd => .loopBurstEnd
  | .wakingEnd => .wakingEnd

/-- The station frame that a command stands for, with its `after` and its source; none for the other commands. -/
def stationFrameOf : Instr → Option (Nat × Position × StationFrame)
  | .present after source n => some (after, source, .present n)
  | .ready after source k => some (after, source, .ready k)
  | .hold after source k => some (after, source, .hold k)
  | .done after source k v a e => some (after, source, .done k v a e)
  | .lapseGather after source k => some (after, source, .lapse k .gather)
  | .lapseMeasure after source k => some (after, source, .lapse k .measure)
  | .parked after source r => some (after, source, .parked r)
  | .reply after source payload => some (after, source, .reply payload)
  | _ => none

/-- The µs before a command; 0 for the commands that have no such operand. -/
def afterOf : Instr → Nat
  | .joiningEnd after => after
  | .mtpActiveChange after => after
  | .mtpInactiveChange after => after
  | .referenceEdge after => after
  | .clampClosing after => after
  | .clampOpening after => after
  | .rstnHeldLow after => after
  | .attemptStart after _ _ => after
  | .frameAborted after _ => after
  | .malformedFrame after _ => after
  | .plan after _ _ => after
  | .step after _ _ => after
  | .muster after _ _ _ => after
  | .run after _ _ _ => after
  | .halt after _ => after
  | .resetRun after _ => after
  | .resetAll after _ => after
  | .close after _ => after
  | .release after _ => after
  | .queryStatus after _ => after
  | .queryResult after _ _ => after
  | .queryClosure after _ => after
  | .querySelftest after _ => after
  | .queryRoster after _ => after
  | .settled after _ => after
  | .disturbed after => after
  | .present after _ _ => after
  | .ready after _ _ => after
  | .hold after _ _ => after
  | .done after _ _ _ _ _ => after
  | .lapseGather after _ _ => after
  | .lapseMeasure after _ _ => after
  | .parked after _ _ => after
  | .reply after _ _ => after
  | _ => 0

/-- The front end once a pulse of a time stamp is accepted, before it is handed to its consumer: the filter waits for
release (R3) and the period measure is updated (R7). -/
def State.afterPulse (u : State) (stamp : Nat) : State :=
  { u with front := { u.front with
      input := .waitRelease, candidate := none, lastPulse := some stamp
      lastPeriod := match u.front.lastPulse with
        | some t => some (min 4_294_967_295 (stamp - t))
        | none => u.front.lastPeriod } }

/-- The period that a pulse of a time stamp forms (R7). -/
def State.formedPeriod (u : State) (stamp : Nat) : Option Nat :=
  u.front.lastPulse.map fun t => min 4_294_967_295 (stamp - t)

/-! ## What a step, a run, an enrollment and a waking leave, written field by field -/

/-- R111: the state once the station has entered GATHERING(k): every ACTIVE entry is WAITING, the gather timer runs,
READY(k) is queued, the deadline, the marks and the counts of the step are clear. -/
def State.gathers (u : State) (k : StepIx) : State :=
  { u with
    coord := { u.coord with
      run := .gathering, step := some k
      roster := u.coord.roster.map fun m => if m.standing = .active then { m with phase := .waiting } else m
      gatherEnd := u.plan.fields.map fun f => u.now + f.gather * 1_000_000
      deadline := none, expired := false, suspension := false, holds := 0, restarts := 0 }
    line := { u.line with
      queue := { u.line.queue with ready := some { frame := k, fails := 0, offered := false } } } }

/-- R113, R39, R61: the state once step k has triggered: the timer is stopped, the unit of a VALID slot is armed, the
reference wait of 100 ms runs with the next-edge request PENDING. -/
def State.measures (u : State) (k : StepIx) (r : StepRecord) : State :=
  { u with
    front := { u.front with nextEdge := true }
    gate := match r.valid, r.body with
      | true, .error f =>
        { state := .armed, step := some k, n := none, r := none, overrange := false, error := none, clamped := false,
          verdict := none, holdLatch := false
          settings := some
            { cref := (u.plan.fields.map fun p => p.cref).getD 0, cmut := f.cmut, gate := f.gate, lower := f.lower,
              upper := f.upper } }
      | _, _ => u.gate
    timed := match r.valid, r.body with
      | true, .creep f =>
        { state := .armed, step := some k, startTime := none, durationEnd := none, count := none, verdict := none,
          elapsed := none, settings := some { kind := .creep, duration := f.duration, threshold := f.threshold } }
      | true, .start f =>
        { state := .armed, step := some k, startTime := none, durationEnd := none, count := none, verdict := none,
          elapsed := none, settings := some { kind := .start, duration := f.duration, threshold := f.threshold } }
      | _, _ => u.timed
    line := { u.line with
      queue := { u.line.queue with
        ready := none, lapse := u.line.queue.lapse.filter fun e => e.frame != { step := k, phase := .gather } } }
    coord := { u.coord with run := .measuring, gatherEnd := none, waitEnd := some (u.now + 100_000) } }

/-- R123, R59, R74: the state once the step in hand is complete, before the station advances: waits stopped, marks and
counts clear, the frames of the step withdrawn, both units IDLE with every field absent or clear (log 34). -/
def State.stepOver (u : State) : State :=
  { u with
    front := { u.front with nextEdge := false, counter := { u.front.counter with counting := false } }
    gate := ErrorGate.idle
    timed := TimedUnit.idle
    line := { u.line with queue := { u.line.queue with lapse := none, done := none, ready := none, hold := none } }
    coord := { u.coord with
      waitEnd := none, deadline := none, expired := false, suspension := false, holds := 0, restarts := 0 } }

/-- R130: the state once the run has ended: the verdict is PASS when results 1..L all hold PASS, the run state is
CLOSING, the timers are stopped and the step frames withdrawn; roster, totals and step in hand are kept. -/
def State.runOver (u : State) : State :=
  { u with
    front := { u.front with nextEdge := false }
    line := { u.line with queue := { u.line.queue with lapse := none, done := none, ready := none, hold := none } }
    coord := { u.coord with
      run := .closing
      verdict := some
        (if (u.coord.results.toList.take u.plan.length).all fun r => r.verdict == .pass then .pass else .fail)
      gatherEnd := none, waitEnd := none, deadline := none } }

/-- R123, R129: the state once step k is complete: the station gathers for the next step, or its run ends after the
last. -/
def State.completes (u : State) (k : StepIx) : State :=
  if k.val + 1 < u.plan.length then u.stepOver.gathers (k + 1) else u.stepOver.runOver

/-- R100, R102, R103: no enrollment is in progress: window stopped, roster empty, home state and remembered MUSTER
absent, PRESENT withdrawn. -/
def State.unenrolled (u : State) : State :=
  { u with
    line := { u.line with queue := { u.line.queue with present := none } }
    coord := { u.coord with stage := .none, remembered := none, home := none, windowEnd := none, roster := [] } }

/-- R103: an enrollment in progress has ended, where there was one. -/
def State.unmustered (u : State) : State := if u.coord.stage = .none then u else u.unenrolled

/-- R153: the state once WAKING is entered. -/
def State.wakes (u : State) : State :=
  { u with
    front := { u.front with refSeen := false }
    power := { u.power with
      state := .waking, parkedSince := none, heldClosing := false, wakeStart := some u.now
      tally := some { count := 0, smallest := none, largest := none }, hdpw := true } }

/-- R152, R142, R143, R150: the state once a clamp opening has parked the station: HDPW off, CALN released, an energised
press cut. -/
def State.parks (u : State) : State :=
  { u with
    power := { u.power with
      state := .parked, clamp := .opened, parkedSince := some u.now, heldClosing := false, wakeStart := none,
      tally := none, hdpw := false }
    closure :=
      { press := .off, caln := .released
        record := if u.closure.press = .off then u.closure.record
          else u.closure.record.map fun r => { r with press := .cut } } }

/-- R142: an energised press is off, with outcome CUT in a record that is kept. -/
def ClosureUnit.pressCut (c : ClosureUnit) : ClosureUnit :=
  if c.press = .off then c else { c with press := .off, record := c.record.map fun r => { r with press := .cut } }

/-- The level that an edge makes active (R2). -/
def levelOf (e : Edge) : Level := if e = .rising then .high else .low

/-- The time stamp of a pulse whose acceptance instant is now and that is not taken yet (R3). -/
def FrontEnd.pulseAtHand (f : FrontEnd) : Option Nat :=
  if f.input = .qualify then f.candidate.filter fun t => t + f.inForce.width * 100 = f.timeBase else none

/-- R5, R8: the filter and the period measure once restarted under a meter edge, with the time stamp of a pulse that the
restart met at its acceptance instant (log 31). -/
def FrontEnd.restartedUnder (f : FrontEnd) (e : Edge) (pulse : Option Nat) : FrontEnd :=
  { f with
    candidate := none, releaseTime := none, lastPulse := pulse, lastPeriod := none
    input := if f.mtp = levelOf e then .waitRelease else .waitEdge }

/-- R15, R16: the front end once no burst runs, with a filter restart where the setting changes. -/
def FrontEnd.unburst (f : FrontEnd) : FrontEnd :=
  if f.loop = .off ∨ f.planSetting = { edge := .rising, width := 5 } then { f with loop := .off }
  else { f with loop := .off }.restartedUnder f.planSetting.edge f.pulseAtHand

/-- R2, R5: the front end with another plan setting: in force at once outside a burst, with a filter restart where it
differs. -/
def FrontEnd.withSetting (f : FrontEnd) (x : FilterSetting) : FrontEnd :=
  if f.loop = .off ∧ f.planSetting ≠ x then { f with planSetting := x }.restartedUnder x.edge f.pulseAtHand
  else { f with planSetting := x }

/-- R154: the power unit once the self-test has counted a pulse with no period. -/
def PowerUnit.tallied (p : PowerUnit) : PowerUnit :=
  { p with tally := p.tally.map fun t => { t with count := min 255 (t.count + 1) } }

/-- R8, R154: the power unit after an event that may restart the filter. A pulse that the restart met at its acceptance
instant is counted with no period in a WAKING whose burst lies in the past (log 31). -/
def State.powerAfterRestart (u : State) (restarts : Bool) : PowerUnit :=
  match u.front.pulseAtHand, u.power.wakeStart with
  | some _, some w =>
    if restarts = true ∧ u.power.state = .waking ∧ u.line.link ≠ .strapFault ∧ w + 50_000 < u.now then u.power.tallied
    else u.power
  | _, _ => u.power

/-- R91, R92: the queue once a link fault has emptied it: DONE alone is queued again, where the result of the step in
hand is written and the station has not reported. -/
def State.emptiedQueue (u : State) : OutQueue :=
  { lapse := none, parked := none, ready := none, hold := none, present := none, reply := none
    done := match u.coord.step with
      | some k =>
        if u.coord.run = .measuring ∧ (u.result k).verdict ≠ .none then
          some
            { frame := { step := k, verdict := (u.result k).verdict, attempt := (u.result k).attempt,
                         error := (u.result k).values.error }
              fails := 0, offered := false }
        else none
      | none => none }

/-- R92: the state once DUPLICATE is entered. -/
def State.duplicated (u : State) : State :=
  { u with line := { u.line with link := .duplicate, transmit := none, role := .none, queue := u.emptiedQueue } }

/-- R110: the view is settled at the load point of a slot; any settled view is at a slot of load point 0. -/
abbrev SourceView.isAt (v : SourceView) (r : StepRecord) : Prop :=
  ∃ lp, v = .settled lp ∧ (r.loadPoint = 0 ∨ lp = r.loadPoint)

/-- R113: every ACTIVE entry is READY. -/
abbrev everyReady (roster : List Member) : Prop := ∀ m ∈ roster, m.standing = .active → m.phase = .ready

/-- R123: every ACTIVE entry is REPORTED. -/
abbrev everyReported (roster : List Member) : Prop :=
  ∀ m ∈ roster, m.standing = .active → ∃ v, m.phase = .reported v

/-- A position has an ACTIVE entry. -/
abbrev memberAt (p : Position) (roster : List Member) : Prop := ∃ m ∈ roster, m.position = p ∧ m.standing = .active

/-- A result record with a verdict and no values or marks, its attempt kept. -/
def ResultRecord.emptied (r : ResultRecord) (v : Verdict) : ResultRecord :=
  { verdict := v, attempt := r.attempt, mark := .none, quiet := false
    values := { n := none, r := none, error := none, clamped := false, lastPeriod := none, count := none,
                elapsed := none } }

/-- No values. -/
def noValues : ResultValues :=
  { n := none, r := none, error := none, clamped := false, lastPeriod := none, count := none, elapsed := none }

/-- R53, R58, R69, R73, R124, R132: the result of a step that ends before the station's own DONE is taken: by the state
of the unit, with `written` what becomes of a result written already. -/
def State.cutShort (u : State) (k : StepIx) (written : ResultRecord) : ResultRecord :=
  let r := u.result k
  match u.gate.state, u.timed.state with
  | .armed, _ => { r with verdict := .incomplete, values := noValues, mark := .none }
  | .waitingOpen, _ => { r with verdict := .incomplete, values := { noValues with n := some 0 }, mark := .partly }
  | .opened, _ =>
    { r with
      verdict := .incomplete, mark := .partly
      values := { noValues with
        n := u.gate.n, r := some u.front.counter.value, lastPeriod := u.front.lastPeriod } }
  | .closed, _ => written
  | .idle, .armed => { r with verdict := .incomplete, values := noValues, mark := .none }
  | .idle, .counting =>
    { r with verdict := .incomplete, values := { noValues with count := u.timed.count }, mark := .partly }
  | .idle, .trailing => written
  | .idle, .ended => written
  | .idle, .idle =>
    if r.verdict = .none then { r with verdict := .incomplete, values := noValues, mark := .none } else written

/-! ## The records that a REPLY carries, field by field (R166 to R170, R173) -/

/-- Payload word `i`, counted from 1, carries a number in bits `hi`..`lo`: its low bits, all of it where it fits. -/
abbrev carries (words : List Word) (i hi lo x : Nat) : Prop :=
  (words.getD (i - 1) 0).toNat / 2 ^ lo % 2 ^ (hi + 1 - lo) = x % 2 ^ (hi + 1 - lo)

/-- Payload words `i` and `i + 1` carry a number of 32 bits, the most significant word first. -/
abbrev carriesWide (words : List Word) (i x : Nat) : Prop :=
  (words.getD (i - 1) 0).toNat * 65_536 + (words.getD i 0).toNat = x % 2 ^ 32

/-- The field encoding of a verdict (R173). -/
def verdictNumber : Verdict → Nat
  | .none => 0
  | .pass => 1
  | .fail => 2
  | .noref => 3
  | .overrange => 4
  | .invalid => 5
  | .incomplete => 6
  | .void => 7

/-- R166, R173: the STATUS form. -/
abbrev State.statusCarried (s : State) (w : List Word) : Prop :=
  carries w 1 15 12 1
  ∧ carries w 1 11 10 (match s.power.state with | .parked => 0 | .waking => 1 | .awake => 2 | .headFault => 3)
  ∧ carries w 1 9 8 (match s.line.link with | .normal => 0 | .linkFault => 1 | .duplicate => 2 | .strapFault => 3)
  ∧ carries w 1 7 4 (match s.coord.run with
      | .idle => 0 | .loaded => 1 | .enrolled => 2 | .gathering => 3 | .measuring => 4 | .reported => 5
      | .suspended => 6 | .closing => 7 | .closed => 8)
  ∧ carries w 1 3 2 (match s.coord.stage with | .none => 0 | .remembered => 1 | .awaiting => 2)
  ∧ carries w 1 1 0 (match s.coord.verdict with | none => 0 | some .pass => 1 | some .fail => 2)
  ∧ carries w 2 15 0 s.plan.number.toNat
  ∧ carries w 3 15 11 s.plan.length ∧ carries w 3 10 6 s.plan.windowFirst ∧ carries w 3 5 1 s.plan.windowLast
  ∧ carries w 3 0 0 (if s.plan.overrun = true then 1 else 0)
  ∧ carries w 4 15 11 s.plan.cursor ∧ carries w 4 10 10 (if s.plan.refused = true then 1 else 0)
  ∧ carries w 4 9 9 (if s.coord.step = none then 0 else 1)
  ∧ carries w 4 8 5 (match s.coord.step with | some k => k.val | none => 0)
  ∧ carries w 4 4 3 s.coord.restarts ∧ carries w 4 2 0 s.coord.holds
  ∧ carries w 5 15 14 (match s.coord.source with | .unknown => 0 | .settled _ => 1 | .disturbed => 2)
  ∧ carries w 5 13 6 (match s.coord.source with | .settled lp => lp | _ => 0)
  ∧ carries w 5 5 0 0

/-- R167, R173: the RESULT form of a record for a slot number as queried; the bits that no table names are zero
(log 32). -/
abbrev resultCarried (slotNumber : Nat) (slot : Option StepRecord) (r : ResultRecord) (w : List Word) : Prop :=
  ∃ kind first second,
    (match (slot.map fun x => x.body : Option StepBody) with
      | none => kind = 0 ∧ first = none ∧ second = none
      | some (.error _) => kind = 1 ∧ first = r.values.n ∧ second = r.values.r
      | some (.creep _) => kind = 2 ∧ first = r.values.count ∧ second = r.values.elapsed
      | some (.start _) => kind = 3 ∧ first = r.values.count ∧ second = r.values.elapsed
      | some .unknown => kind = 4 ∧ first = none ∧ second = none)
    ∧ carries w 1 15 12 2 ∧ carries w 1 11 7 slotNumber ∧ carries w 1 6 4 kind ∧ carries w 1 3 0 r.attempt
    ∧ carries w 2 15 13 (verdictNumber r.verdict)
    ∧ carries w 2 12 11 (match r.mark with | .none => 0 | .partly => 1 | .late => 2)
    ∧ carries w 2 10 10 (if r.quiet = true then 1 else 0) ∧ carries w 2 9 9 (if r.values.clamped = true then 1 else 0)
    ∧ carries w 2 8 8 (if first = none then 0 else 1) ∧ carries w 2 7 7 (if second = none then 0 else 1)
    ∧ carries w 2 6 6 (if r.values.error = none then 0 else 1)
    ∧ carries w 2 5 5 (if r.values.lastPeriod = none then 0 else 1) ∧ carries w 2 4 0 0
    ∧ carries w 3 15 0 (first.getD 0) ∧ carriesWide w 4 (second.getD 0)
    ∧ carriesWide w 6 (((r.values.error.getD 0) % 2 ^ 32).toNat) ∧ carriesWide w 8 (r.values.lastPeriod.getD 0)

/-- R168, R173: the CLOSURE form of a BUILT record; a verdict beyond the list is zero, and so are the bits that no table
names (log 32). -/
abbrev closureCarried (r : ClosureRecord) (w : List Word) : Prop :=
  carries w 1 15 12 3 ∧ carries w 1 11 11 1 ∧ carries w 1 10 6 r.position.toNat
  ∧ carries w 1 5 5 (if r.verdict = .pass then 1 else 0)
  ∧ carries w 1 4 3 (match r.press with | .fired => 1 | .cut => 2 | .notFired => 3)
  ∧ carries w 1 2 2 (if r.caln = .released then 1 else 0) ∧ carries w 1 1 0 0
  ∧ carries w 2 15 0 r.plan.toNat
  ∧ (∀ i < 15,
      carries w (3 + i / 5) (15 - 3 * (i % 5)) (13 - 3 * (i % 5)) ((r.steps[i]?.map verdictNumber).getD 0))
  ∧ carries w 3 0 0 0 ∧ carries w 4 0 0 0 ∧ carries w 5 0 0 0
  ∧ carries w 6 15 13 ((r.steps[15]?.map verdictNumber).getD 0) ∧ carries w 6 12 4 r.holds ∧ carries w 6 3 0 0
  ∧ carries w 7 15 11 r.steps.length ∧ carries w 7 10 5 r.restarts ∧ carries w 7 4 0 0

/-- R169, R173, R159: the SELFTEST form of a held record at an instant, with its age in whole seconds. -/
abbrev selfTestCarried (r : SelfTestRecord) (now : Nat) (w : List Word) : Prop :=
  carries w 1 15 12 4 ∧ carries w 1 11 11 1 ∧ carries w 1 10 10 (if r.passed = true then 1 else 0)
  ∧ carries w 1 9 9 (if r.smallest = none ∨ r.largest = none then 0 else 1)
  ∧ carries w 1 8 8 (if r.refSeen = true then 1 else 0) ∧ carries w 1 7 0 r.count
  ∧ carriesWide w 2 (r.smallest.getD 0) ∧ carriesWide w 4 (r.largest.getD 0)
  ∧ carries w 6 15 0 (min 65_535 ((now - r.endedAt) / 1_000_000))

/-- The words of a payload as one number, the first word the most significant. -/
def payloadNumber (words : List Word) : Nat := words.foldl (fun acc w => acc * 65_536 + w.toNat) 0

/-- The six-bit code of a listed position (R173). -/
def memberCode (m : Member) : Nat :=
  1
  + 10 * (match m.standing with
    | .active => 0
    | .struck .clampOpen => 1
    | .struck .headFault => 2
    | .struck .halt => 3
    | .struck .reset => 4
    | .struck .gatherLapse => 5)
  + (match m.phase with
    | .waiting => 0
    | .ready => 1
    | .reported v => 2 + verdictNumber v)

/-- R170, R173: the ROSTER form. Position `p` has its code in the six bits from bit 6 × `p` of the payload on, counted from
its first bit. A live roster with no entries is sent as EMPTY (log 33). -/
abbrev State.rosterCarried (s : State) (w : List Word) : Prop :=
  carries w 1 15 12 5
  ∧ carries w 1 11 10
      (if s.coord.roster = [] then 0
      else if s.coord.stage ≠ .none ∨ s.coord.run = .enrolled ∨ s.coord.run = .gathering ∨ s.coord.run = .measuring
          ∨ s.coord.run = .reported ∨ s.coord.run = .suspended then 1
      else 2)
  ∧ (∀ p : Position, 1 ≤ p.toNat → p.toNat ≤ 30 →
      ((∀ m ∈ s.coord.roster, m.position ≠ p) → payloadNumber w / 2 ^ (186 - 6 * p.toNat) % 64 = 0)
      ∧ (∀ m, s.coord.roster.find? (fun x => x.position == p) = some m →
        payloadNumber w / 2 ^ (186 - 6 * p.toNat) % 64 = memberCode m))
  ∧ carries w 12 5 0 0

end Sys2Proof.Machine
end

