-- ==== Sys2Proof/WellFormed.lean ====
section
/-! DEFINITION. Well-formed commands: those whose operands the manual lets occur. The meanings are total: operands that
fail here act as log 18 says. -/

namespace Sys2Proof

/-- A frame on the line has at least one group (R75, R76). -/
def groupCountFits (n : Nat) : Bool := decide (1 ≤ n)

/-- R82: the checks on a station frame's operands. -/
def stationWellFormed (f : StationFrame) (source : Position) : Bool := Machine.stationFrameFits f source

/-- The operands of a command are such as can occur: station frames well formed (R82); an ignored or missed frame one
that brings no command, or that its receiver marked bad (R78, R79, R82, R163); a frame on the line of at least one group
(R76). -/
def Instr.wellFormed : Instr → Bool
  | .present _ source n => stationWellFormed (.present n) source
  | .ready _ source k => stationWellFormed (.ready k) source
  | .hold _ source k => stationWellFormed (.hold k) source
  | .done _ source k v a e => stationWellFormed (.done k v a e) source
  | .lapseGather _ source k => stationWellFormed (.lapse k .gather) source
  | .lapseMeasure _ source k => stationWellFormed (.lapse k .measure) source
  | .parked _ source r => stationWellFormed (.parked r) source
  | .reply _ source payload => stationWellFormed (.reply payload) source
  | .malformedFrame _ groups =>
    groupCountFits groups.length && (frameBad groups || (commandOf 0 (groups.map Prod.fst)).isNone)
  | .attemptStart _ _ groups => groupCountFits groups
  | .frameAborted _ groups => groupCountFits groups.length
  | _ => true

end Sys2Proof
end

