-- ==== Sys2Proof/Certificates/Slice0/Obligations.lean ====
section
/-! DEFINITION. The statements for the provers. In each, `u` is the state at the instant a command reaches the station
(`State.reaches`, `State.takes…`, `State.meets` in Safety.lean), and the state after the command is written as `u` with
the fields that change, so that each statement also says what stays. -/

open Sys2Proof Sys2Proof.Machine

/-! ## The queue, time and reset -/

/-- A step takes the command at the front of the queue and runs it on the state with the queue's rest. -/
def Obligations.StepRunsFrontCommand : Prop :=
  ∀ (c : Instr) (rest : List Instr) (s : State), s.pending = c :: rest → step s = exec c { s with pending := rest }

/-- On an empty queue one µs passes, and while RSTN is held low nothing does (log 3, log 6). Where no local event is due
before the end of a stretch of time, the time base moves on (R1), an end slot reached gives the line phase END and a gap
that is over an idle line (R76); nothing else changes. Where one is due before it, time stops at the earliest due instant
and takes a local event due there, as its row would, before it goes on (log 2); which one of several is free (log 4). -/
def Obligations.IdleStepPassesTime : Prop :=
  (∀ s : State, s.pending = [] →
    step s = .next (s.elapse 1) ∧ (s.rstnLow = true → step s = .next s))
  ∧ (∀ (s : State) (dt : Nat), s.rstnLow = false → (∀ e, s.dueBefore (s.now + dt) e = false) →
    s.elapse dt =
      { s with
        front := { s.front with timeBase := s.now + dt }
        line := match s.line.phase, s.line.endSlot, s.line.gapEnd with
          | .frame, some e, _ => if e ≤ s.now + dt then { s.line with phase := .endInterval, endSlot := none } else s.line
          | .gap, _, some g => if g ≤ s.now + dt then { s.line with phase := .idle, gapEnd := none } else s.line
          | _, _, _ => s.line })
  ∧ (∀ (s : State) (dt d : Nat), s.rstnLow = false → (∃ e, s.due e = some d) → s.now ≤ d → d < s.now + dt →
      (∀ e, s.dueBefore d e = false) →
    ∃ e n v, s.due e = some d ∧ exec e.command { s with freeDraws := n } = .next v ∧ v.now = d
      ∧ s.elapse dt = State.passTo 63 (s.now + dt) v)

/-- Every command answers with a next state, and leaves the queue as it is. That no command stops is read from the
manual, which stops the part nowhere (log 18, log 23). -/
def Obligations.EveryCommandAnswersAndKeepsQueue : Prop :=
  ∀ (c : Instr) (s : State), ∃ t, exec c s = .next t ∧ t.pending = s.pending

/-- R1: the time base is set to 0 at power-on and at pin reset, and never goes back at any other command. -/
def Obligations.TimeBaseNeverGoesBack : Prop :=
  ∀ (c : Instr) (s t : State), exec c s = .next t →
    match c with
    | .powerOn _ _ _ => t.now = 0
    | .pinReset _ _ _ => t.now = 0
    | _ => s.now ≤ t.now

/-- The twelve local events as commands: one that is named while it is not to come has no effect. This is the model's
choice (log 2): the spec says that a local event acts where it occurs (00_scope.md), and not what naming it elsewhere
does. -/
def Obligations.UnarmedLocalEventChangesNothing : Prop :=
  ∀ s : State,
    (s.due .pulseAccepted = none → exec .pulseAccepted s = .next s)
    ∧ (s.due .filterRearm = none → exec .filterRearm s = .next s)
    ∧ (s.due .referenceWaitExpiry = none → exec .referenceWaitExpiry s = .next s)
    ∧ (s.due .gatherTimerExpiry = none → exec .gatherTimerExpiry s = .next s)
    ∧ (s.due .stepDeadlineExpiry = none → exec .stepDeadlineExpiry s = .next s)
    ∧ (s.due .musterWindowExpiry = none → exec .musterWindowExpiry s = .next s)
    ∧ (s.due .durationEnd = none → exec .durationEnd s = .next s)
    ∧ (s.due .pressDwellEnd = none → exec .pressDwellEnd s = .next s)
    ∧ (s.due .parkedDwellEnd = none → exec .parkedDwellEnd s = .next s)
    ∧ (s.due .loopBurstStart = none → exec .loopBurstStart s = .next s)
    ∧ (s.due .loopBurstEnd = none → exec .loopBurstEnd s = .next s)
    ∧ (s.due .wakingEnd = none → exec .wakingEnd s = .next s)

/-- The values after power-on that R17, R37, R60, R74, R94, R108, R133, R148 and R161 give, with the pin levels of log
7 (straps 1, clamp open, MTP low) and an empty queue. The pin levels, the model's own fields and the release time,
which R17 does not list, are its choices (log 7, log 26, log 38). -/
def Obligations.ResetHasThePowerOnValues : Prop :=
  State.reset.front =
      { timeBase := 0, mtp := .low, planSetting := { edge := .rising, width := 5 }, input := .waitEdge,
        candidate := none, releaseTime := none, lastPulse := none, lastPeriod := none,
        counter := { counting := false, value := 0, overrange := false }, nextEdge := false, refSeen := false,
        loop := .off }
  ∧ State.reset.plan =
      { number := 0, fields := none, windowFirst := 1, windowLast := 16, cursor := 1, overrun := false,
        refused := false, sessionOpen := false, slots := Vector.replicate 16 none }
  ∧ State.reset.gate =
      { state := .idle, step := none, settings := none, n := none, r := none, overrange := false, error := none,
        clamped := false, verdict := none, holdLatch := false }
  ∧ State.reset.timed =
      { state := .idle, step := none, settings := none, startTime := none, durationEnd := none, count := none,
        verdict := none, elapsed := none }
  ∧ State.reset.line =
      { strap := 1, link := .normal, phase := .joining, endSlot := none, gapEnd := none, recessiveSince := 0,
        receive := { words := [], bad := false },
        queue := { lapse := none, parked := none, done := none, ready := none, hold := none, present := none,
                   reply := none },
        transmit := none, role := .none, abortDriven := false }
  ∧ State.reset.coord =
      { run := .idle, step := none, source := .unknown, gatherEnd := none, waitEnd := none, deadline := none,
        expired := false, suspension := false, holds := 0, restarts := 0, runHolds := 0, runRestarts := 0,
        results := Vector.replicate 16
          { verdict := .none, attempt := 0,
            values := { n := none, r := none, error := none, clamped := false, lastPeriod := none, count := none,
                        elapsed := none },
            mark := .none, quiet := false },
        verdict := none, stage := .none, remembered := none, home := none, windowEnd := none, roster := [] }
  ∧ State.reset.closure = { record := none, press := .off, caln := .released }
  ∧ State.reset.power =
      { state := .parked, clamp := .opened, parkedSince := none, heldClosing := false, wakeStart := none,
        tally := none, selfTest := none, hdpw := false }
  ∧ State.reset.pending = []

/-- POWER_ON: every block takes its power-on value, whatever the state was; the straps, the clamp and MTP are read, and
a clamped station with straps 1..30 is WAKING from time 0 with HDPW on (R17, R93, R153, R161). The model's own fields
and the release time after it are the model's choices (log 26, log 38). -/
def Obligations.PowerOnStartsTheStation : Prop :=
  ∀ (straps : Position) (clamp : ClampLevel) (mtp : Level) (s : State),
    exec (.powerOn straps clamp mtp) s =
      .next { State.reset with
        front := { State.reset.front with mtp := mtp, input := if mtp = .high then .waitRelease else .waitEdge }
        line := { State.reset.line with
          strap := straps, link := if straps = 0 ∨ straps = 31 then .strapFault else .normal }
        power := if clamp = .closed ∧ straps ≠ 0 ∧ straps ≠ 31 then
            { State.reset.power with
              state := .waking, clamp := clamp, wakeStart := some 0,
              tally := some { count := 0, smallest := none, largest := none }, hdpw := true }
          else { State.reset.power with clamp := clamp }
        freeDraws := s.freeDraws
        pending := s.pending }

/-- PIN_RESET: as power-on, but the plan store is kept with its load session SHUT, the plan setting comes from it, and
the run state is LOADED or IDLE by L (R17, R21, R38, R161). The model's own fields and the release time after it are
the model's choices (log 26, log 38). -/
def Obligations.PinResetKeepsThePlan : Prop :=
  ∀ (straps : Position) (clamp : ClampLevel) (mtp : Level) (s : State) (setting : FilterSetting),
    setting = (match s.plan.fields with
      | some f => { edge := f.edge, width := f.width }
      | none => { edge := .rising, width := 5 }) →
    exec (.pinReset straps clamp mtp) s =
      .next { State.reset with
        front := { State.reset.front with
          mtp := mtp, planSetting := setting,
          input := if mtp = (if setting.edge = .rising then Level.high else Level.low) then .waitRelease
                   else .waitEdge }
        plan := { s.plan with sessionOpen := false }
        line := { State.reset.line with
          strap := straps, link := if straps = 0 ∨ straps = 31 then .strapFault else .normal }
        coord := { State.reset.coord with run := if s.plan.length = 0 then .idle else .loaded }
        power := if clamp = .closed ∧ straps ≠ 0 ∧ straps ≠ 31 then
            { State.reset.power with
              state := .waking, clamp := clamp, wakeStart := some 0,
              tally := some { count := 0, smallest := none, largest := none }, hdpw := true }
          else { State.reset.power with clamp := clamp }
        freeDraws := s.freeDraws
        pending := s.pending }

/-- RSTN_HELD_LOW: the attempt on the line is cut, PRSS is off, CALN released and a burst aborted, with a filter
restart where the two settings differ (R5, R16, R94, R148). That HDPW, the time base, the records and all else keep
their values at this command is the model's choice, and so is that from then on no command but PIN_RESET and POWER_ON
changes anything (log 6); that the stamp of a pulse met at its acceptance instant becomes the last pulse time is its
reading (R8; log 31). That a filter restart makes the release time absent is the model's choice (log 38). -/
def Obligations.RstnHeldLowStopsTheStation : Prop :=
  (∀ (after : Nat) (s u : State), s.reaches after u →
    exec (.rstnHeldLow after) s =
      .next { u with
        front := u.front.unburst
        line := { u.line with transmit := none, role := .none }
        closure := { u.closure with press := .off, caln := .released }
        rstnLow := true })
  ∧ (∀ (c : Instr) (s : State), s.rstnLow = true → (∀ straps clamp mtp, c ≠ .powerOn straps clamp mtp) →
      (∀ straps clamp mtp, c ≠ .pinReset straps clamp mtp) → exec c s = .next s)

/-! ## Pulse inputs and measuring units (chapters 1, 3, 4) -/

/-- MTP_ACTIVE_CHANGE, MTP_INACTIVE_CHANGE and FILTER_REARM in every input state; the holds of W before a pulse is
accepted and before the filter is re-armed (R2 to R4). That the release time becomes absent where its hold ends is the
model's choice (log 38). -/
def Obligations.MeterInputQualifiesEdges : Prop :=
  (∀ (after : Nat) (s u : State) (active inactive : Level), s.reaches after u →
      active = (if u.front.inForce.edge = .rising then .high else .low) →
      inactive = (if u.front.inForce.edge = .rising then .low else .high) →
      (u.front.input = .waitEdge → exec (.mtpActiveChange after) s =
        .next { u with front := { u.front with mtp := active, input := .qualify, candidate := some u.now } })
      ∧ (u.front.input = .qualifyRelease → exec (.mtpActiveChange after) s =
        .next { u with front := { u.front with mtp := active, input := .waitRelease, releaseTime := none } })
      ∧ (u.front.input = .qualify ∨ u.front.input = .waitRelease → exec (.mtpActiveChange after) s =
        .next { u with front := { u.front with mtp := active } })
      ∧ (u.front.input = .qualify → exec (.mtpInactiveChange after) s =
        .next { u with front := { u.front with mtp := inactive, input := .waitEdge, candidate := none } })
      ∧ (u.front.input = .waitRelease → exec (.mtpInactiveChange after) s =
        .next { u with front := { u.front with mtp := inactive, input := .qualifyRelease, releaseTime := some u.now } })
      ∧ (u.front.input = .waitEdge ∨ u.front.input = .qualifyRelease → exec (.mtpInactiveChange after) s =
        .next { u with front := { u.front with mtp := inactive } }))
  ∧ (∀ (s u : State),
      (s.meets .filterRearm u → exec .filterRearm s =
        .next { u with front := { u.front with input := .waitEdge, releaseTime := none } })
      ∧ (∀ t, s.front.input = .qualifyRelease → s.front.releaseTime = some t →
        s.due .filterRearm = some (t + s.front.inForce.width * 100))
      ∧ (∀ t, s.front.input = .qualify → s.front.candidate = some t →
        s.due .pulseAccepted = some (t + s.front.inForce.width * 100)))

/-- PULSE_ACCEPTED with no consumer under R9: only the filter and the period measure change (R3, R6, R7). Derived: the
pulse is taken at its due instant (log 2). -/
def Obligations.PulseWithoutConsumerUpdatesPeriod : Prop :=
  ∀ (s u : State) (stamp : Nat), s.meets .pulseAccepted u → u.front.candidate = some stamp →
    (u.line.link = .strapFault
      ∨ (u.power.state ≠ .waking
        ∧ (u.power.state = .awake → u.gate.state ≠ .waitingOpen ∧ u.gate.state ≠ .opened
            ∧ u.timed.state ≠ .counting ∧ u.timed.state ≠ .trailing))) →
    exec .pulseAccepted s = .next (u.afterPulse stamp)

/-- PULSE_ACCEPTED in WAITING-OPEN opens the gate: N is 0 and the reference counter is started afresh (R11, R41). -/
def Obligations.OpeningPulseStartsCounter : Prop :=
  ∀ (s u : State) (stamp : Nat), s.meets .pulseAccepted u → u.front.candidate = some stamp →
    u.line.link ≠ .strapFault → u.power.state = .awake → u.gate.state = .waitingOpen →
    exec .pulseAccepted s =
      .next { u.afterPulse stamp with
        gate := { u.gate with state := .opened, n := some 0 }
        front := { (u.afterPulse stamp).front with
          counter := { counting := true, value := 0, overrange := false } } }

/-- PULSE_ACCEPTED in OPEN below the gate length adds 1 to N and predicts the finish, rounded up to a whole millisecond;
HOLD is queued where the finish is later than the deadline less 1,000 ms, the holds are below the allowance and the latch
is clear, and not otherwise (R42, R50, R51). -/
def Obligations.CountedPulsePredictsAndAsksForHold : Prop :=
  ∀ (s u : State) (stamp : Nat) (k : StepIx) (x : GateSettings) (n : Nat), s.meets .pulseAccepted u →
    u.front.candidate = some stamp → u.line.link ≠ .strapFault → u.power.state = .awake → u.gate.state = .opened →
    u.gate.step = some k → u.gate.settings = some x → u.gate.n = some n → n + 1 < x.gate →
    (u.formedPeriod stamp = none →
      exec .pulseAccepted s = .next { u.afterPulse stamp with gate := { u.gate with n := some (n + 1) } })
    ∧ (∀ (p d finish : Nat) (r : StepRecord), u.formedPeriod stamp = some p → u.slot k = some r →
        u.coord.deadline = some d → finish = (stamp + (x.gate - (n + 1)) * p + 999) / 1000 * 1000 →
        (d < finish + 1_000_000 ∧ u.coord.holds < r.allowance ∧ u.gate.holdLatch = false →
          exec .pulseAccepted s =
            .next { u.afterPulse stamp with
              gate := { u.gate with n := some (n + 1), holdLatch := true }
              line := { u.line with
                queue := { u.line.queue with hold := some { frame := k, fails := 0, offered := false } } } })
        ∧ (¬(d < finish + 1_000_000 ∧ u.coord.holds < r.allowance ∧ u.gate.holdLatch = false) →
          exec .pulseAccepted s = .next { u.afterPulse stamp with gate := { u.gate with n := some (n + 1) } }))

/-- PULSE_ACCEPTED that brings N to the gate length closes the gate: the counter stops, R and the mark are read, error and
verdict are formed, the result is written with its DONE queued, and a pending HOLD is withdrawn (R43, R49, R120). -/
def Obligations.ClosingPulseWritesResult : Prop :=
  ∀ (s u : State) (stamp : Nat) (k : StepIx) (x : GateSettings) (n : Nat) (o : GateOutcome) (r : ResultRecord),
    s.meets .pulseAccepted u → u.front.candidate = some stamp → u.line.link ≠ .strapFault →
    u.power.state = .awake → u.gate.state = .opened → u.gate.step = some k → u.gate.settings = some x →
    u.gate.n = some n → n + 1 = x.gate →
    o = gateOutcome x (n + 1) u.front.counter.value u.front.counter.overrange →
    r = { u.result k with
          verdict := o.verdict
          values := { n := some (n + 1), r := some u.front.counter.value, error := o.error, clamped := o.clamped,
                      lastPeriod := u.formedPeriod stamp, count := none, elapsed := none }
          mark := .none } →
    exec .pulseAccepted s =
      .next { u.afterPulse stamp with
        front := { (u.afterPulse stamp).front with counter := { u.front.counter with counting := false } }
        gate := { u.gate with
          state := .closed, n := some (n + 1), r := some u.front.counter.value,
          overrange := u.front.counter.overrange, error := o.error, clamped := o.clamped, verdict := some o.verdict }
        coord := { u.coord with results := u.coord.results.set k r }
        line := { u.line with
          queue := { u.line.queue with
            done := some { frame := { step := k, verdict := o.verdict, attempt := (u.result k).attempt,
                                      error := o.error },
                           fails := 0, offered := false }
            hold := none } } }

/-- The timed unit counts a pulse: a CREEP count above its threshold fails the step and a START count at its threshold
passes it, both with the result written, DONE queued and the unit TRAILING; a trailing count replaces the count in the
record alone (R63 to R67). -/
def Obligations.TimedUnitCountsPulses : Prop :=
  ∀ (s u : State) (stamp : Nat) (k : StepIx) (x : TimedSettings) (c m : Nat), s.meets .pulseAccepted u →
    u.front.candidate = some stamp → u.line.link ≠ .strapFault → u.power.state = .awake →
    u.gate.state = .idle → u.timed.step = some k → u.timed.settings = some x → u.timed.count = some c →
    m = min 65_535 (c + 1) →
    (u.timed.state = .counting → (x.kind = .creep ∧ m ≤ x.threshold ∨ x.kind = .start ∧ m < x.threshold) →
      exec .pulseAccepted s = .next { u.afterPulse stamp with timed := { u.timed with count := some m } })
    ∧ (∀ (v : Verdict) (elapsed : Option Nat), u.timed.state = .counting →
        (x.kind = .creep ∧ x.threshold < m ∧ v = .fail ∧ elapsed = none
          ∨ x.kind = .start ∧ x.threshold ≤ m ∧ v = .pass
            ∧ elapsed = u.timed.startTime.map fun t0 => (stamp - t0) / 1000) →
        exec .pulseAccepted s =
          .next { u.afterPulse stamp with
            timed := { u.timed with state := .trailing, count := some m, verdict := some v, elapsed := elapsed }
            coord := { u.coord with
              results := u.coord.results.set k
                { u.result k with
                  verdict := v
                  values := { n := none, r := none, error := none, clamped := false, lastPeriod := none,
                              count := some m, elapsed := elapsed }
                  mark := .none } }
            line := { u.line with
              queue := { u.line.queue with
                done := some { frame := { step := k, verdict := v, attempt := (u.result k).attempt, error := none },
                               fails := 0, offered := false } } } })
    ∧ (u.timed.state = .trailing →
      exec .pulseAccepted s =
        .next { u.afterPulse stamp with
          timed := { u.timed with count := some m }
          coord := { u.coord with
            results := u.coord.results.set k
              { u.result k with values := { (u.result k).values with count := some m } } } })

/-- PULSE_ACCEPTED in WAKING: discarded before the burst starts, counted in the tally while the burst runs and in the
margin after it, with a period or without (R154). That the burst starts once, by its time, is the model's reading (log
17). -/
def Obligations.SelfTestTalliesPulses : Prop :=
  ∀ (s u : State) (stamp : Nat), s.meets .pulseAccepted u → u.front.candidate = some stamp →
    u.line.link ≠ .strapFault → u.power.state = .waking →
    (∀ w, u.front.loop = .off → u.power.wakeStart = some w → u.now ≤ w + 50_000 →
      exec .pulseAccepted s = .next (u.afterPulse stamp))
    ∧ (∀ t : Tally, (∃ b, u.front.loop = .burst b)
          ∨ (u.front.loop = .off ∧ ∃ w, u.power.wakeStart = some w ∧ w + 50_000 < u.now) →
      u.power.tally = some t → u.formedPeriod stamp = none →
      exec .pulseAccepted s =
        .next { u.afterPulse stamp with
          power := { u.power with tally := some { t with count := min 255 (t.count + 1) } } })
    ∧ (∀ (p : Nat) (t : Tally), (∃ b, u.front.loop = .burst b)
          ∨ (u.front.loop = .off ∧ ∃ w, u.power.wakeStart = some w ∧ w + 50_000 < u.now) →
      u.power.tally = some t → u.formedPeriod stamp = some p →
      exec .pulseAccepted s =
        .next { u.afterPulse stamp with
          power := { u.power with
            tally := some
              { count := min 255 (t.count + 1)
                smallest := some (match t.smallest with | some a => min a p | none => p)
                largest := some (match t.largest with | some a => max a p | none => p) } } })

/-- REFERENCE_EDGE with no request pending: a COUNTING counter below its limit rises by 1, with the overrange mark at
the limit; a counter that is STOPPED or at its limit keeps its value; reference seen is set in WAKING (R12, R14). -/
def Obligations.ReferenceEdgeCounts : Prop :=
  ∀ (after : Nat) (s u : State), s.reaches after u → u.front.nextEdge = false →
    (u.front.counter.counting = true → u.front.counter.value + 1 < 4_294_967_295 →
      exec (.referenceEdge after) s =
        .next { u with front := { u.front with
          counter := { u.front.counter with value := u.front.counter.value + 1 }
          refSeen := if u.power.state = .waking then true else u.front.refSeen } })
    ∧ (u.front.counter.counting = true → u.front.counter.value + 1 = 4_294_967_295 →
      exec (.referenceEdge after) s =
        .next { u with front := { u.front with
          counter := { counting := true, value := 4_294_967_295, overrange := true }
          refSeen := if u.power.state = .waking then true else u.front.refSeen } })
    ∧ (u.front.counter.counting = false ∨ 4_294_967_295 ≤ u.front.counter.value →
      exec (.referenceEdge after) s =
        .next { u with front := { u.front with
          refSeen := if u.power.state = .waking then true else u.front.refSeen } })

/-- DURATION_END in COUNTING passes a CREEP step and fails a START step, with the result written and DONE queued; in
TRAILING the unit ends with its verdict (R63 to R65). -/
def Obligations.DurationEndFormsVerdict : Prop :=
  ∀ (s u : State), s.meets .durationEnd u →
    (∀ (k : StepIx) (x : TimedSettings) (c : Nat) (v : Verdict), u.line.link ≠ .strapFault →
      u.timed.state = .counting → u.timed.step = some k → u.timed.settings = some x → u.timed.count = some c →
      v = (if x.kind = .creep then .pass else .fail) →
      exec .durationEnd s =
        .next { u with
          timed := { u.timed with state := .ended, verdict := some v, elapsed := none }
          coord := { u.coord with
            results := u.coord.results.set k
              { u.result k with
                verdict := v
                values := { n := none, r := none, error := none, clamped := false, lastPeriod := none,
                            count := some c, elapsed := none }
                mark := .none } }
          line := { u.line with
            queue := { u.line.queue with
              done := some { frame := { step := k, verdict := v, attempt := (u.result k).attempt, error := none },
                             fails := 0, offered := false } } } })
    ∧ (u.timed.state = .trailing →
      exec .durationEnd s = .next { u with timed := { u.timed with state := .ended } })

/-- The common start t0 of the step in hand, at the reference edge that answers the request and at the end of the wait:
the deadline, the attempt and the reference-quiet mark are set, and the armed gate, the armed timed unit or the INVALID
slot starts; a REPORTED station sets its deadline alone (R40, R62, R114, R115). -/
def Obligations.CommonStartSetsDeadlineAndUnits : Prop :=
  ∀ (c : Instr) (s u : State) (quiet : Bool) (k : StepIx) (r : StepRecord) (d : Nat) (started : ResultRecord)
    (q : OutQueue) (seen : Bool),
    (∃ after, c = .referenceEdge after ∧ s.reaches after u ∧ u.front.nextEdge = true ∧ quiet = false
        ∧ u.front.counter.counting = false
        ∧ seen = (if u.power.state = .waking then true else u.front.refSeen))
      ∨ (c = .referenceWaitExpiry ∧ s.meets .referenceWaitExpiry u ∧ quiet = true ∧ seen = u.front.refSeen) →
    u.line.link ≠ .strapFault → u.coord.step = some k → u.slot k = some r → 1 ≤ r.baseDeadline →
    d = u.now + r.baseDeadline * 1_000_000 + u.coord.holds * r.extension * 1_000_000 →
    started = { u.result k with attempt := min 15 ((u.result k).attempt + 1), quiet := quiet } →
    q = { u.line.queue with
          hold := none, lapse := if u.line.queue.lapsePending k .measure then none else u.line.queue.lapse } →
    (u.coord.run = .measuring → u.gate.state = .armed → u.timed.state = .idle → r.valid = true →
      exec c s =
        .next { u with
          front := { u.front with nextEdge := false, lastPulse := none, lastPeriod := none, refSeen := seen }
          gate := { u.gate with state := .waitingOpen, holdLatch := false }
          line := { u.line with queue := q }
          coord := { u.coord with
            waitEnd := none, deadline := some d, expired := false, results := u.coord.results.set k started } })
    ∧ (∀ x : TimedSettings, u.coord.run = .measuring → u.gate.state = .idle → u.timed.state = .armed →
        u.timed.settings = some x → r.valid = true →
      exec c s =
        .next { u with
          front := { u.front with nextEdge := false, refSeen := seen }
          gate := { u.gate with holdLatch := false }
          timed := { u.timed with
            state := .counting, startTime := some u.now, count := some 0,
            durationEnd := some (u.now + x.duration * 1000) }
          line := { u.line with queue := q }
          coord := { u.coord with
            waitEnd := none, deadline := some d, expired := false, results := u.coord.results.set k started } })
    ∧ (u.coord.run = .measuring → u.gate.state = .idle → u.timed.state = .idle → r.valid = false →
      exec c s =
        .next { u with
          front := { u.front with nextEdge := false, refSeen := seen }
          gate := { u.gate with holdLatch := false }
          line := { u.line with
            queue := { q with
              done := some { frame := { step := k, verdict := .invalid, attempt := started.attempt, error := none },
                             fails := 0, offered := false } } }
          coord := { u.coord with
            waitEnd := none, deadline := some d, expired := false
            results := u.coord.results.set k
              { started with
                verdict := .invalid
                values := { n := none, r := none, error := none, clamped := false, lastPeriod := none, count := none,
                            elapsed := none }
                mark := .none } } })
    ∧ (u.coord.run = .reported →
      exec c s =
        .next { u with
          front := { u.front with nextEdge := false, refSeen := seen }
          gate := { u.gate with holdLatch := false }
          line := { u.line with queue := q }
          coord := { u.coord with waitEnd := none, deadline := some d, expired := false } })

/-! ## Timers, power and the clamp (chapters 1, 6 to 9) -/

/-- The local timers. GATHER_TIMER_EXPIRY and STEP_DEADLINE_EXPIRY queue a LAPSE for the step in hand, with the timer
stopped or the expiry mark set (R115, R118). MUSTER_WINDOW_EXPIRY ends the muster, and an ENROLLED station returns to its
home state (R100). PRESS_DWELL_END de-energises the press and leaves the record (R140). PARKED_DWELL_END ends the dwell
and wakes the station where a closing is held (R152, R153). -/
def Obligations.LocalTimersRunOut : Prop :=
  (∀ (s u : State) (k : StepIx), u.line.link ≠ .strapFault → u.coord.step = some k →
      (s.meets .gatherTimerExpiry u → exec .gatherTimerExpiry s =
        .next { u with
          coord := { u.coord with gatherEnd := none }
          line := { u.line with
            queue := { u.line.queue with
              lapse := some { frame := { step := k, phase := .gather }, fails := 0, offered := false } } } })
      ∧ (s.meets .stepDeadlineExpiry u → exec .stepDeadlineExpiry s =
        .next { u with
          coord := { u.coord with expired := true }
          line := { u.line with
            queue := { u.line.queue with
              lapse := some { frame := { step := k, phase := .measure }, fails := 0, offered := false } } } })
      ∧ (s.coord.run = .gathering → s.due .gatherTimerExpiry = s.coord.gatherEnd)
      ∧ (s.coord.run = .measuring ∨ s.coord.run = .reported ∨ s.coord.run = .suspended → s.coord.expired = false →
          s.due .stepDeadlineExpiry = s.coord.deadline)
      ∧ (s.coord.expired = true → s.due .stepDeadlineExpiry = none))
  ∧ (∀ s u : State, s.meets .musterWindowExpiry u →
      (u.coord.run ≠ .enrolled → exec .musterWindowExpiry s = .next u.unenrolled)
      ∧ (u.coord.run = .enrolled → u.coord.home = some .closing →
        exec .musterWindowExpiry s =
          .next { u.unenrolled with coord := { u.unenrolled.coord with run := .closing } })
      ∧ (u.coord.run = .enrolled → u.coord.home = some .loaded →
        exec .musterWindowExpiry s =
          .next { u.unenrolled with coord := { u.unenrolled.coord with run := .loaded, step := none } }))
  ∧ (∀ s u : State, s.meets .pressDwellEnd u →
    exec .pressDwellEnd s = .next { u with closure := { u.closure with press := .off } })
  ∧ (∀ s u : State, s.meets .parkedDwellEnd u →
    (u.power.heldClosing = true → exec .parkedDwellEnd s = .next u.wakes)
    ∧ (u.power.heldClosing = false →
      exec .parkedDwellEnd s = .next { u with power := { u.power with parkedSince := none } }))
  ∧ (∀ (s : State) (first dwellEnd : Nat), s.closure.press = .energised first dwellEnd →
    s.due .pressDwellEnd = some dwellEnd)
  ∧ (∀ (s : State) (t : Nat), s.power.state = .parked → s.power.parkedSince = some t →
    s.due .parkedDwellEnd = some (t + 500_000))

/-- LOOP_BURST_START puts the self-test setting in force and restarts filter and period measure; LOOP_BURST_END returns
to the plan setting, with a restart where it differs (R2, R5, R8, R15, R153). A pulse that the burst start meets at its
acceptance instant is counted with no period (R154). That the restart leaves that pulse, that its stamp becomes the
last pulse time, and that a pulse which the burst end meets is treated alike, is the model's reading (log 31). LOOP
emits 20 pulses: pulse i rises at the burst start plus (i − 1) × 4 ms and falls 2 ms later; it is low at any other time
and while the generator is OFF (R15). That a filter restart makes the release time absent is the model's choice (log
38). -/
def Obligations.LoopBurstSwitchesSetting : Prop :=
  (∀ s u : State, s.meets .loopBurstStart u → exec .loopBurstStart s =
    .next { u with
      front := { u.front with
        loop := .burst u.now, candidate := none, releaseTime := none, lastPulse := u.front.pulseAtHand,
        lastPeriod := none
        input := if u.front.mtp = .high then .waitRelease else .waitEdge }
      power := if u.front.pulseAtHand ≠ none ∧ u.line.link ≠ .strapFault then u.power.tallied else u.power })
  ∧ (∀ s u : State, s.meets .loopBurstEnd u → exec .loopBurstEnd s =
    .next { u with
      front := u.front.unburst
      power := u.powerAfterRestart (u.front.planSetting != { edge := .rising, width := 5 }) })
  ∧ (∀ f : FrontEnd, f.loop = .off → f.loopPin = .low)
  ∧ (∀ (f : FrontEnd) (b : Nat), f.loop = .burst b → b ≤ f.timeBase →
    (f.loopPin = .high ↔
      ∃ i, 1 ≤ i ∧ i ≤ 20 ∧ b + (i - 1) * 4_000 ≤ f.timeBase ∧ f.timeBase < b + (i - 1) * 4_000 + 2_000))
  ∧ (∀ (s : State) (b : Nat), s.front.loop = .burst b →
    s.front.inForce = { edge := .rising, width := 5 } ∧ s.due .loopBurstEnd = some (b + 80_000))
  ∧ (∀ (s : State) (w : Nat), s.power.state = .waking → s.power.wakeStart = some w → s.front.loop = .off →
    s.now ≤ w + 50_000 → s.front.inForce = s.front.planSetting ∧ s.due .loopBurstStart = some (w + 50_000))

/-- WAKING_END writes the self-test record. A tally of exactly 20 with both periods within 3,800..4,200 µs makes the
station AWAKE with CALN asserted and settles a remembered MUSTER; any other makes it HEAD-FAULT with PARKED queued and
drops it (R99, R143, R155, R159). That the home state, the wake start and the tally are then absent is the model's
reading (log 15, log 16). -/
def Obligations.WakingEndJudgesSelfTest : Prop :=
  ∀ (s u : State) (t : Tally) (rec : Bool → SelfTestRecord) (pass : Prop) (parkedEntry : Entry ParkedReason),
    s.meets .wakingEnd u → u.line.link ≠ .strapFault → u.power.tally = some t →
    (∀ b, rec b = { passed := b, count := t.count, smallest := t.smallest, largest := t.largest,
                    refSeen := u.front.refSeen, endedAt := u.now }) →
    (pass ↔ t.count = 20 ∧ ∃ a b, t.smallest = some a ∧ t.largest = some b
      ∧ 3_800 ≤ a ∧ a ≤ 4_200 ∧ 3_800 ≤ b ∧ b ≤ 4_200) →
    parkedEntry = { frame := .headFault, fails := 0, offered := false } →
    ∀ (awake fault : State),
      awake = { u with
        power := { u.power with state := .awake, wakeStart := none, tally := none, selfTest := some (rec true) }
        closure := { u.closure with caln := .asserted } } →
      fault = { u with
        power := { u.power with
          state := .headFault, wakeStart := none, tally := none, hdpw := false, selfTest := some (rec false) }
        closure := { u.closure with caln := .released }
        line := { u.line with queue := { u.line.queue with parked := some parkedEntry } } } →
      (pass → u.coord.stage ≠ .remembered → exec .wakingEnd s = .next awake)
      ∧ (∀ m, pass → u.coord.stage = .remembered → u.coord.remembered = some m →
        (u.coord.run = .loaded ∧ m.plan = u.plan.number ∧ m.count.toNat = u.plan.length →
          exec .wakingEnd s =
            .next { awake with
              coord := { u.coord with stage := .awaiting, remembered := none }
              line := { u.line with
                queue := { u.line.queue with
                  present := some { frame := u.plan.number, fails := 0, offered := false } } } })
        ∧ (¬(u.coord.run = .loaded ∧ m.plan = u.plan.number ∧ m.count.toNat = u.plan.length) →
          exec .wakingEnd s = .next awake.unenrolled))
      ∧ (¬pass → u.coord.stage ≠ .remembered → exec .wakingEnd s = .next fault)
      ∧ (¬pass → u.coord.stage = .remembered → exec .wakingEnd s = .next fault.unenrolled)

/-- CLAMP_CLOSING in every power state: in PARKED it wakes the station when the dwell is over and is held before; in
the others, and in STRAP-FAULT, the level alone changes (R151 to R153). That a closing at the very end of the dwell is
held, and taken up by that end, is the model's choice (log 12). -/
def Obligations.ClampClosingWakesOrIsHeld : Prop :=
  ∀ (after : Nat) (s u : State), s.reaches after u →
    (u.line.link = .strapFault ∨ u.power.state ≠ .parked →
      exec (.clampClosing after) s = .next { u with power := { u.power with clamp := .closed } })
    ∧ (u.line.link ≠ .strapFault → u.power.state = .parked →
      (∀ t, u.power.parkedSince = some t → t + 500_000 < u.now) →
      exec (.clampClosing after) s = .next { u.wakes with power := { u.wakes.power with clamp := .closed } })
    ∧ (∀ t, u.line.link ≠ .strapFault → u.power.state = .parked → u.power.parkedSince = some t →
      u.now ≤ t + 500_000 →
      exec (.clampClosing after) s =
        .next { u with power := { u.power with clamp := .closed, heldClosing := true } })

/-- CLAMP_OPENING outside a run, in every power state and run state: WAKING and AWAKE are left for PARKED with
PARKED(CLAMP-OPEN) queued, HEAD-FAULT without; the press is cut and CALN released; a CLOSING and an enrollment end, a
CLOSED stays (R16, R99, R103, R135, R142, R143, R146, R151, R152, R156 to R158). The wake start and the tally after
WAKING, and the home state of a remembered MUSTER then dropped, are the model's reading (log 16, log 15). So is that,
where the end of a burst restarts the filter (R5, R16), the stamp of a pulse met at its acceptance instant becomes the
last pulse time (R8; log 31). That a filter restart makes the release time absent is the model's choice (log 38). -/
def Obligations.ClampOpeningParks : Prop :=
  ∀ (after : Nat) (s u told : State) (entry : Entry ParkedReason), s.reaches after u →
    entry = { frame := .clampOpen, fails := 0, offered := false } →
    told = { u.parks with line := { u.line with queue := { u.line.queue with parked := some entry } } } →
    (u.line.link = .strapFault →
      exec (.clampOpening after) s = .next { u with power := { u.power with clamp := .opened } })
    ∧ (u.line.link ≠ .strapFault → u.power.state = .parked →
      exec (.clampOpening after) s =
        .next { u with
          power := { u.power with clamp := .opened, heldClosing := false }, closure := u.closure.pressCut })
    ∧ (u.line.link ≠ .strapFault → u.power.state = .headFault → exec (.clampOpening after) s = .next u.parks)
    ∧ (u.line.link ≠ .strapFault → u.power.state = .waking → u.coord.stage ≠ .remembered →
      exec (.clampOpening after) s = .next { told with front := u.front.unburst })
    ∧ (u.line.link ≠ .strapFault → u.power.state = .waking → u.coord.stage = .remembered →
      exec (.clampOpening after) s = .next { told.unenrolled with front := u.front.unburst })
    ∧ (u.line.link ≠ .strapFault → u.power.state = .awake →
      u.coord.run = .closed ∨ (u.coord.run = .idle ∨ u.coord.run = .loaded) ∧ u.coord.stage = .none →
      exec (.clampOpening after) s = .next told)
    ∧ (u.line.link ≠ .strapFault → u.power.state = .awake → u.coord.run = .closing → u.coord.stage = .none →
      exec (.clampOpening after) s =
        .next { told with coord := { u.coord with run := .loaded, step := none, verdict := none } })
    ∧ (u.line.link ≠ .strapFault → u.power.state = .awake →
      u.coord.run = .enrolled ∨ (u.coord.run = .loaded ∨ u.coord.run = .closing) ∧ u.coord.stage ≠ .none →
      exec (.clampOpening after) s =
        .next { told.unenrolled with
          coord := { told.unenrolled.coord with run := .loaded, step := none, verdict := none } })

/-- CLAMP_OPENING in a run: the result of the step is cut short by the state of its unit, a written or reported result
stands, the units go IDLE, the step frames are withdrawn, the station is LOADED with its roster kept, parked, and
PARKED(CLAMP-OPEN) is queued (R58, R73, R132, R157). That marks and step counts are cleared, and that the attempt and the
reference-quiet mark stay at INCOMPLETE, is the model's reading (log 14, log 25); that the other fields of the units go
with them is its choice (log 34). -/
def Obligations.ClampOpeningEndsRun : Prop :=
  ∀ (after : Nat) (s u : State) (k : StepIx) (r : ResultRecord), s.reaches after u →
    u.line.link ≠ .strapFault → u.power.state = .awake →
    u.coord.run = .gathering ∨ u.coord.run = .measuring ∨ u.coord.run = .reported ∨ u.coord.run = .suspended →
    u.coord.step = some k →
    r = (if u.coord.run = .measuring ∨ u.coord.run = .suspended then u.cutShort k (u.result k) else u.result k) →
    exec (.clampOpening after) s =
      .next { u.parks with
        front := { u.front with nextEdge := false, counter := { u.front.counter with counting := false } }
        gate := ErrorGate.idle
        timed := TimedUnit.idle
        line := { u.line with
          queue := { u.line.queue with
            lapse := none, done := none, ready := none, hold := none
            parked := some { frame := .clampOpen, fails := 0, offered := false } } }
        coord := { u.coord with
          run := .loaded, step := none, gatherEnd := none, waitEnd := none, deadline := none, expired := false,
          suspension := false, holds := 0, restarts := 0, verdict := none
          results := u.coord.results.set k r } }

/-! ## The bench line (chapters 5, 10, 11) -/

/-- R82, R85, R86: the entry offered is the pending one of lowest priority value: LAPSE, PARKED, DONE, READY, HOLD,
PRESENT, REPLY; a REPLY is read from its record at that instant (R164). The end of an attempt acts on the one entry of
its kind, and there only on an entry that is still the offered one: taken it leaves the queue, failed it counts one
more, lost it keeps its count (R87, R89, R90). The mark of the offered entry is the model's form (log 11). -/
def Obligations.QueueOffersByPriority : Prop :=
  (∀ (s : State) (q : OutQueue), s.line.queue = q →
      (∀ e, q.lapse = some e → s.offer = some (.lapse e.frame.step e.frame.phase))
      ∧ (∀ e, q.lapse = none → q.parked = some e → s.offer = some (.parked e.frame))
      ∧ (∀ e, q.lapse = none → q.parked = none → q.done = some e →
        s.offer = some (.done e.frame.step e.frame.verdict (BitVec.ofNat 4 e.frame.attempt)
          (e.frame.error.map fun x => BitVec.ofInt 21 x)))
      ∧ (∀ e, q.lapse = none → q.parked = none → q.done = none → q.ready = some e → s.offer = some (.ready e.frame))
      ∧ (∀ e, q.lapse = none → q.parked = none → q.done = none → q.ready = none → q.hold = some e →
        s.offer = some (.hold e.frame))
      ∧ (∀ e, q.lapse = none → q.parked = none → q.done = none → q.ready = none → q.hold = none →
        q.present = some e → s.offer = some (.present e.frame))
      ∧ (∀ e, q.lapse = none → q.parked = none → q.done = none → q.ready = none → q.hold = none →
        q.present = none → q.reply = some e →
        s.offer = some (.reply (match e.frame.kind with
          | .status => s.statusPayload
          | .result => s.resultPayload e.frame.slot
          | .closure => s.closurePayload
          | .selftest => s.selfTestPayload
          | .roster => s.rosterPayload)))
      ∧ (q = OutQueue.empty → s.offer = none))
  ∧ (∀ (q : OutQueue) (c : EntryChange),
      q.change .lapse c = { q with lapse := q.lapse.bind c.apply }
      ∧ q.change .parked c = { q with parked := q.parked.bind c.apply }
      ∧ q.change .done c = { q with done := q.done.bind c.apply }
      ∧ q.change .ready c = { q with ready := q.ready.bind c.apply }
      ∧ q.change .hold c = { q with hold := q.hold.bind c.apply }
      ∧ q.change .present c = { q with present := q.present.bind c.apply }
      ∧ q.change .reply c = { q with reply := q.reply.bind c.apply }
      ∧ (∀ (α : Type) (e : Entry α),
        EntryChange.apply .offer e = some { e with offered := true }
        ∧ EntryChange.apply .lose e = some { e with offered := false }
        ∧ (e.offered = true →
          EntryChange.apply .fail e = some { e with fails := e.fails + 1, offered := false }
          ∧ EntryChange.apply .take e = none)
        ∧ (e.offered = false → EntryChange.apply .fail e = some e ∧ EntryChange.apply .take e = some e)))

/-- ATTEMPT_START: a NORMAL station on an idle line copies the offered frame and contends. It is SENDING when all
reads back as sent, NONE when a recessive bit of the arbitration field reads dominant, ABORTING at any other
difference; a station that may not start, or has nothing to send, does nothing (R86 to R88). Another party's start bit on
an idle line begins a frame at every station, and to a JOINING one the line is dominant (R76, R80, R86). The end slot
follows the frame's groups of 25 bit times (R75, R76). What reads back and how many groups follow are operands (log 8).
That the line phase of a STRAP-FAULT station follows another party's start bit, and that the recessive count of a JOINING
one moves to the last start bit told, are the model's choices (log 29). -/
def Obligations.AttemptStartContends : Prop :=
  ∀ (after groups : Nat) (arbRead sent : BitVec 9) (restMatches : Bool) (s u : State) (f : StationFrame)
    (kind : StationKind), s.reaches after u →
    (u.line.link ≠ .normal ∨ u.line.phase ≠ .idle ∨ u.line.role ≠ .none ∨ u.offer = none →
      exec (.attemptStart after (.own arbRead restMatches) groups) s = .next u)
    ∧ (u.line.phase = .idle → exec (.attemptStart after .peer groups) s =
      .next { u with line := { u.line with phase := .frame, endSlot := some (u.now + groups * 200) } })
    ∧ (u.line.phase = .joining → exec (.attemptStart after .peer groups) s =
      .next (u.dominant (u.now + (groups - 1) * 200 + 8)))
    ∧ (u.line.phase ≠ .idle → u.line.phase ≠ .joining → exec (.attemptStart after .peer groups) s = .next u)
    ∧ (u.line.link = .normal → u.line.phase = .idle → u.line.role = .none → u.offer = some f →
      kind = stationKindOf f → sent = f.kind.priority ++ u.line.strap →
      (arbRead = sent → restMatches = true → exec (.attemptStart after (.own arbRead restMatches) groups) s =
        .next { u with line := { u.line with
          phase := .frame, endSlot := some (u.now + (2 + f.payload.length) * 200),
          transmit := some f, role := .sending, queue := u.line.queue.change kind .offer } })
      ∧ (arbRead < sent → exec (.attemptStart after (.own arbRead restMatches) groups) s =
        .next { u with line := { u.line with
          phase := .frame, endSlot := some (u.now + groups * 200),
          transmit := none, role := .none, queue := u.line.queue.change kind .lose } })
      ∧ (sent < arbRead ∨ arbRead = sent ∧ restMatches = false →
        exec (.attemptStart after (.own arbRead restMatches) groups) s =
          .next { u with line := { u.line with
            phase := .frame, endSlot := some (u.now + groups * 200),
            transmit := some f, role := .aborting, queue := u.line.queue.change kind .offer } }))

/-- FRAME_ABORTED: the gap follows and no party takes the frame; a NORMAL station that found it bad, or an ABORTING
one, drives the abort mark; the offered entry of a SENDING or ABORTING station counts a failed attempt, and the
sixteenth puts the station in LINK-FAULT with its queue emptied and DONE queued again where it is due (R76, R78, R88,
R89, R91). The gap end and the abort output are the model's form (log 9, log 10). That to a JOINING station the line was
dominant until the abort mark's end, and that the line phase of a STRAP-FAULT station follows an aborted frame, are the
model's choices (log 29). -/
def Obligations.AbortedFrameCountsFailure : Prop :=
  ∀ (after : Nat) (groups : List Group) (s u : State) (line : LineInterface), s.reaches after u →
    (u.line.phase = .joining → exec (.frameAborted after groups) s = .next (u.dominant u.now))
    ∧ (u.line.phase ≠ .joining →
      line = { u.line with
        phase := .gap, endSlot := none, gapEnd := some (u.now + 24), receive := { words := [], bad := false }
        abortDriven := decide (u.line.link = .normal ∧ frameBad groups = true ∨ u.line.role = .aborting) } →
      (u.line.role = .none ∨ u.line.role = .contending →
        exec (.frameAborted after groups) s = .next { u with line := line })
      ∧ (∀ f q, u.line.role = .sending ∨ u.line.role = .aborting → u.line.transmit = some f →
        q = u.line.queue.change (stationKindOf f) .fail →
        (q.fails (stationKindOf f) < 16 →
          exec (.frameAborted after groups) s =
            .next { u with line := { line with transmit := none, role := .none, queue := q } })
        ∧ (16 ≤ q.fails (stationKindOf f) →
          exec (.frameAborted after groups) s =
            .next { u with line := { line with
              transmit := none, role := .none, link := .linkFault, queue := u.emptiedQueue } })))

/-- A taken frame that bears the station's own position and that it was not sending is not delivered: from NORMAL and
LINK-FAULT it makes DUPLICATE, with the queue emptied and the attempt ended; a malformed frame of another position, and
a QUERY that names no record, are ignored (R82, R92, R163). MALFORMED_FRAME, and the eight station frames. A frame that
a LINK-FAULT or DUPLICATE station marked bad and that comes without an abort mark is missed there: it is not taken,
whatever it carries (R79, R91). These are the model's choices: that such a missed frame is given as a MALFORMED_FRAME
with bad groups and acts on the line phase alone (log 30); that at a NORMAL station, which would have aborted it, a
MALFORMED_FRAME with bad groups is no event, and that a station frame command whose operands spell no well-formed frame
acts as a malformed frame (log 18); and that a QUERY that names no record is given as a MALFORMED_FRAME (log 21). -/
def Obligations.ForeignOwnPositionMakesDuplicate : Prop :=
  (∀ (after : Nat) (groups : List Group) (words : List Word) (s u : State), s.takes after u →
    words = groups.map Prod.fst →
    (frameBad groups = true →
      (u.line.link ≠ .normal → exec (.malformedFrame after groups) s = .next u)
      ∧ (u.line.link = .normal → exec (.malformedFrame after groups) s = .next (s.elapse after)))
    ∧ (frameBad groups = false →
      wellFormedFrame words = false
        ∨ (∃ w1 w2 w3, words = [w1, w2, w3] ∧ wellFormedFrame words = true ∧ w1.extractLsb' 2 5 = 0x11
            ∧ (w3.toNat < 0x1000 ∨ 0x6000 ≤ w3.toNat)) →
      (sourceOf words ≠ u.line.strap → exec (.malformedFrame after groups) s = .next u)
      ∧ (sourceOf words = u.line.strap → u.line.link = .normal ∨ u.line.link = .linkFault →
        exec (.malformedFrame after groups) s = .next u.duplicated)
      ∧ (sourceOf words = u.line.strap → u.line.link = .duplicate → exec (.malformedFrame after groups) s = .next u)))
  ∧ (∀ (c : Instr) (after : Nat) (source : Position) (f : StationFrame) (s u : State),
    stationFrameOf c = some (after, source, f) → s.takes after u → source = u.line.strap →
    ¬(stationFrameFits f source = true ∧ u.line.role = .sending ∧ u.line.transmit = some f) →
    (u.line.link = .normal ∨ u.line.link = .linkFault → exec c s = .next u.duplicated)
    ∧ (u.line.link = .duplicate → exec c s = .next u))

/-- JOINING_END: the line phase JOINING becomes IDLE once the line has been recessive for 30 bit times, 240 µs (R80,
R160). A station that is JOINING or in STRAP-FAULT takes no frame, whatever it carries (R79, R80, R93). A console frame
that does not match has no effect but on the line (R83, R84); for HALT and RESET see StrikesFollowFrame. That a
JOINING_END before those bit times, and one in another phase, is no event, that the bit times count from the reset or the
last dominant bit of what the station was told, and that in STRAP-FAULT the line phase follows a frame, are the model's
choices (log 29), and so is that the words of a QUERY that uses no slot have slot 0 (log 35). -/
def Obligations.FramesNotForTheStation : Prop :=
  (∀ (after : Nat) (s u : State), s.reaches after u →
      (u.line.phase = .joining → u.line.recessiveSince + 240 ≤ u.now →
        exec (.joiningEnd after) s = .next { u with line := { u.line with phase := .idle } })
      ∧ (u.line.phase ≠ .joining ∨ u.now < u.line.recessiveSince + 240 → exec (.joiningEnd after) s = .next u))
  ∧ (∀ (c : Instr) (words : List Word) (s u : State), s.reaches (afterOf c) u → frameWords c = some words →
    (u.line.phase = .joining → exec c s = .next (u.heard (groupsOf words)))
    ∧ (u.line.phase ≠ .joining → u.line.link = .strapFault → exec c s = .next u.afterFrame))
  ∧ (∀ (after : Nat) (groups : List Group) (s u : State), s.reaches after u →
    frameBad groups = true ∨ commandOf 0 (groups.map Prod.fst) = none →
    (u.line.phase = .joining → exec (.malformedFrame after groups) s = .next (u.heard groups))
    ∧ (u.line.phase ≠ .joining → u.line.link = .strapFault → exec (.malformedFrame after groups) s = .next u.afterFrame))
  ∧ (∀ (after : Nat) (sel : Selector) (s u : State), s.takesOther after sel u →
      (∀ x, exec (.plan after sel x) s = .next u)
      ∧ (∀ x, exec (.step after sel x) s = .next u)
      ∧ (∀ n c, exec (.muster after sel n c) s = .next u)
      ∧ (∀ n k, exec (.run after sel n k) s = .next u)
      ∧ exec (.close after sel) s = .next u
      ∧ exec (.release after sel) s = .next u
      ∧ exec (.queryStatus after sel) s = .next u
      ∧ (∀ slot, exec (.queryResult after sel slot) s = .next u)
      ∧ exec (.queryClosure after sel) s = .next u
      ∧ exec (.querySelftest after sel) s = .next u
      ∧ exec (.queryRoster after sel) s = .next u)

/-- The five QUERY commands queue a REPLY entry that names the record kind, and the slot for RESULT, with a count of 0
(R85, R163); a taken REPLY changes nothing more (R84, R165). -/
def Obligations.QueriesQueueReplies : Prop :=
  (∀ (after : Nat) (sel : Selector) (s u : State), s.takesMatching after sel u →
    ∀ (asked : RecordKind → BitVec 5 → State),
      (∀ kind slot, asked kind slot = { u with
        line := { u.line with
          queue := { u.line.queue with
            reply := some { frame := { kind := kind, slot := slot }, fails := 0, offered := false } } } }) →
      exec (.queryStatus after sel) s = .next (asked .status 0)
      ∧ (∀ slot, exec (.queryResult after sel slot) s = .next (asked .result slot))
      ∧ exec (.queryClosure after sel) s = .next (asked .closure 0)
      ∧ exec (.querySelftest after sel) s = .next (asked .selftest 0)
      ∧ exec (.queryRoster after sel) s = .next (asked .roster 0))
  ∧ (∀ (after : Nat) (source : Position) (payload : List Word) (s u : State),
    s.takesStation after source (.reply payload) u → exec (.reply after source payload) s = .next u)

/-! ## Plan store, enrollment and the run frames (chapters 2, 6, 7) -/

/-- PLAN applied: in IDLE, LOADED or CLOSING with number 1..65535 and Cref 1..2,000,000,000. Number, fields and window
are replaced, clamped as R25 states, the flags cleared, the session opened; a new number empties table and results and
makes the run state IDLE; the filter takes the new setting, with a restart where it differs; an enrollment ends (R2,
R5, R22 to R26, R103). That a pulse which the restart met at its acceptance instant is kept, its stamp the last pulse
time, and counted by the self-test with no period, is the model's reading (log 31); that the marks of the results go
with their verdicts is its choice (log 36). That a filter restart makes the release time absent is the model's choice
(log 38). -/
def Obligations.AppliedPlanReplacesPlan : Prop :=
  ∀ (after : Nat) (sel : Selector) (x : PlanPayload) (s u v : State) (w first last : Nat),
    s.takesMatching after sel u →
    u.coord.run = .idle ∨ u.coord.run = .loaded ∨ u.coord.run = .closing →
    x.number ≠ 0 → 1 ≤ x.cref.toNat → x.cref.toNat ≤ 2_000_000_000 →
    w = max 1 x.filter.toNat →
    first = min 16 (max 1 x.windowFirst.toNat) → last = max first (min 16 x.windowLast.toNat) →
    v = { u with
      front := u.front.withSetting { edge := x.edge, width := w }
      power := u.powerAfterRestart
        (u.front.loop == .off && u.front.planSetting != { edge := x.edge, width := w })
      plan := { u.plan with
        number := x.number
        fields := some
          { cref := x.cref.toNat, edge := x.edge, width := w, gather := min 120 (max 5 x.gather.toNat) }
        windowFirst := first, windowLast := last, cursor := first, overrun := false, refused := false
        sessionOpen := true } } →
    (x.number = u.plan.number → exec (.plan after sel x) s = .next v.unmustered)
    ∧ (x.number ≠ u.plan.number →
      exec (.plan after sel x) s =
        .next { v.unmustered with
          plan := { v.plan with slots := Vector.replicate 16 none }
          coord := { v.unmustered.coord with
            run := .idle, step := none
            results := Vector.replicate 16
              { verdict := .none, attempt := 0, values := noValues, mark := .none, quiet := false }
            verdict := if u.coord.run = .closing then none else u.coord.verdict } })

/-- STEP admitted: the record formed from the frame fills the slot of the cursor, its result is reset, the cursor
advances; in IDLE and LOADED the run state follows L; an enrollment ends (R27, R29, R30, R36, R103). -/
def Obligations.AdmittedStepFillsSlot : Prop :=
  ∀ (after : Nat) (sel : Selector) (x : StepPayload) (s u v : State) (k : StepIx), s.takesMatching after sel u →
    u.coord.run = .idle ∨ u.coord.run = .loaded ∨ u.coord.run = .closing →
    u.plan.sessionOpen = true →
    u.plan.windowFirst ≤ u.plan.cursor → u.plan.cursor ≤ u.plan.windowLast → u.plan.cursor = stepNumber k →
    v = { u with
      plan := { u.plan with
        slots := u.plan.slots.set k (some (formStepRecord x)), cursor := u.plan.cursor + 1 }
      coord := { u.coord with
        results := u.coord.results.set k
          { verdict := .none, attempt := 0, values := noValues, mark := .none, quiet := false } } } →
    (u.coord.run = .closing → exec (.step after sel x) s = .next v.unmustered)
    ∧ (u.coord.run = .idle ∨ u.coord.run = .loaded →
      exec (.step after sel x) s =
        .next { v.unmustered with
          coord := { v.unmustered.coord with
            run := if v.plan.length = 0 then .idle else .loaded, step := none } })

/-- PLAN ignored, in another run state or with number 0 or Cref out of range: the refused flag is set, the session shut
(R22, R23). STEP refused: the refused flag is set, no slot is filled, and none is until a PLAN is applied (R28); that the
session is what holds this, SHUT at the refusal, is the model's reading (log 37). STEP ignored with the cursor past the
window: the overrun flag is set and nothing else changes (R29). -/
def Obligations.RefusedPlanTrafficSetsFlags : Prop :=
  (∀ (after : Nat) (sel : Selector) (x : PlanPayload) (s u : State), s.takesMatching after sel u →
      ¬((u.coord.run = .idle ∨ u.coord.run = .loaded ∨ u.coord.run = .closing)
        ∧ x.number ≠ 0 ∧ 1 ≤ x.cref.toNat ∧ x.cref.toNat ≤ 2_000_000_000) →
      exec (.plan after sel x) s = .next { u with plan := { u.plan with refused := true, sessionOpen := false } })
  ∧ (∀ (after : Nat) (sel : Selector) (x : StepPayload) (s u : State), s.takesMatching after sel u →
      (¬(u.coord.run = .idle ∨ u.coord.run = .loaded ∨ u.coord.run = .closing) ∨ u.plan.sessionOpen = false →
        exec (.step after sel x) s = .next { u with plan := { u.plan with refused := true, sessionOpen := false } })
      ∧ (u.coord.run = .idle ∨ u.coord.run = .loaded ∨ u.coord.run = .closing → u.plan.sessionOpen = true →
        u.plan.cursor = u.plan.windowLast + 1 →
        exec (.step after sel x) s = .next { u with plan := { u.plan with overrun := true } }))

/-- MUSTER that names the stored plan number and L: AWAKE in LOADED, CLOSING or ENROLLED it empties the roster, starts
the window of 5 s and queues PRESENT; WAKING in LOADED it is remembered; elsewhere, or with another number or count,
nothing changes (R97, R98). -/
def Obligations.MusterStartsEnrollment : Prop :=
  ∀ (after : Nat) (sel : Selector) (n : BitVec 16) (c : BitVec 5) (s u v : State), s.takesMatching after sel u →
    v = { u with
      coord := { u.coord with roster := [], stage := .awaiting, windowEnd := some (u.now + 5_000_000) }
      line := { u.line with
        queue := { u.line.queue with present := some { frame := n, fails := 0, offered := false } } } } →
    (n = u.plan.number ∧ c.toNat = u.plan.length →
      (u.power.state = .awake → u.coord.run = .loaded →
        exec (.muster after sel n c) s = .next { v with coord := { v.coord with home := some .loaded } })
      ∧ (u.power.state = .awake → u.coord.run = .closing →
        exec (.muster after sel n c) s = .next { v with coord := { v.coord with home := some .closing } })
      ∧ (u.power.state = .awake → u.coord.run = .enrolled → u.coord.home = some .closing →
        exec (.muster after sel n c) s = .next { v with coord := { v.coord with run := .closing } })
      ∧ (u.power.state = .awake → u.coord.run = .enrolled → u.coord.home = some .loaded →
        exec (.muster after sel n c) s = .next { v with coord := { v.coord with run := .loaded, step := none } })
      ∧ (u.power.state = .waking → u.coord.run = .loaded →
        exec (.muster after sel n c) s =
          .next { u with coord := { u.coord with
            roster := [], remembered := some { plan := n, count := c }, home := some .loaded, stage := .remembered
            windowEnd := some (u.now + 5_000_000) } }))
    ∧ (¬(n = u.plan.number ∧ c.toNat = u.plan.length)
        ∨ u.power.state = .parked ∨ u.power.state = .headFault
        ∨ u.power.state = .awake ∧ u.coord.run ≠ .loaded ∧ u.coord.run ≠ .closing ∧ u.coord.run ≠ .enrolled
        ∨ u.power.state = .waking ∧ u.coord.run ≠ .loaded →
      exec (.muster after sel n c) s = .next u)

/-- RUN in ENROLLED that names the stored plan number and a step k of 1..L: results k..L are cleared with their attempts
kept, the run counts are 0, the run verdict absent, the window stopped, and the station gathers for step k. Another RUN
in ENROLLED is ignored; in another run state it ends an enrollment in progress (R101, R102, R111). -/
def Obligations.RunStartsGathering : Prop :=
  ∀ (after : Nat) (sel : Selector) (n : BitVec 16) (first : BitVec 5) (s u : State), s.takesMatching after sel u →
    (∀ (k : StepIx) (results : ResultTable), u.coord.run = .enrolled → n = u.plan.number →
      first.toNat = stepNumber k → stepNumber k ≤ u.plan.length →
      (∀ i : Fin 16, results[i] =
        if k.val ≤ i.val ∧ i.val < u.plan.length then (u.coord.results[i]).emptied .none else u.coord.results[i]) →
      exec (.run after sel n first) s =
        .next ({ u with coord := { u.coord with
          results := results, runHolds := 0, runRestarts := 0, verdict := none, windowEnd := none,
          home := none } }.gathers k))
    ∧ (u.coord.run = .enrolled →
      n ≠ u.plan.number ∨ first.toNat = 0 ∨ u.plan.length < first.toNat →
      exec (.run after sel n first) s = .next u)
    ∧ (u.coord.run ≠ .enrolled → exec (.run after sel n first) s = .next u.unmustered)

/-- HALT that matches, in a run: the result of the step in hand becomes NONE with its attempt kept, units, timers, marks,
counts and step frames go, the roster is emptied, the run state is LOADED. In ENROLLED the station returns to its home
state; otherwise an enrollment in progress ends, and nothing else changes (R57, R73, R103, R106, R131). That the settings
and the hold latch of a unit go as well is the model's choice (log 34). -/
def Obligations.MatchingHaltEndsRun : Prop :=
  ∀ (after : Nat) (sel : Selector) (s u : State), s.takesMatching after sel u →
    (∀ k, u.coord.run = .gathering ∨ u.coord.run = .measuring ∨ u.coord.run = .reported ∨ u.coord.run = .suspended →
      u.coord.step = some k →
      exec (.halt after sel) s =
        .next { u.stepOver with
          coord := { u.stepOver.coord with
            run := .loaded, step := none, gatherEnd := none, roster := [], verdict := none
            results := u.coord.results.set k ((u.result k).emptied .none) } })
    ∧ (u.coord.run = .enrolled → u.coord.home = some .closing →
      exec (.halt after sel) s =
        .next { u.unenrolled with coord := { u.unenrolled.coord with run := .closing } })
    ∧ (u.coord.run = .enrolled → u.coord.home = some .loaded →
      exec (.halt after sel) s =
        .next { u.unenrolled with coord := { u.unenrolled.coord with run := .loaded, step := none } })
    ∧ (u.coord.run = .idle ∨ u.coord.run = .loaded ∨ u.coord.run = .closing ∨ u.coord.run = .closed →
      exec (.halt after sel) s = .next u.unmustered)

/-- HALT and RESET that do not match, and PARKED from a peer: in a live roster the ACTIVE entries they name become
STRUCK with the reason, and the trigger or the completion of the step in hand follows where it holds; in a roster that
is kept nothing changes. The station's own PARKED leaves the queue and has no effect (R95, R105 to R107, R113, R123,
R160). That a completion empties the fields of the units is the model's choice (log 34). -/
def Obligations.StrikesFollowFrame : Prop :=
  (∀ (c : Instr) (s u v : State) (hit : Position → Bool) (reason : StrikeReason) (struck : List Member),
    (∃ after sel, hit = sel.covers ∧ s.takesOther after sel u
      ∧ (c = .halt after sel ∧ reason = .halt
        ∨ (c = .resetRun after sel ∨ c = .resetAll after sel) ∧ reason = .reset))
      ∨ (∃ after source why, hit = (fun p => p == source) ∧ s.takesPeer after source (.parked why) u
        ∧ c = .parked after source why
        ∧ (why = .clampOpen ∧ reason = .clampOpen ∨ why = .headFault ∧ reason = .headFault)) →
    struck = u.coord.roster.map (fun m =>
      if m.standing = .active ∧ hit m.position = true then { m with standing := .struck reason } else m) →
    v = { u with coord := { u.coord with roster := struck } } →
    (u.coord.stage = .none → u.coord.run = .idle ∨ u.coord.run = .loaded ∨ u.coord.run = .closing
        ∨ u.coord.run = .closed →
      exec c s = .next u)
    ∧ (u.coord.run = .enrolled
        ∨ u.coord.stage ≠ .none ∧ (u.coord.run = .idle ∨ u.coord.run = .loaded ∨ u.coord.run = .closing) →
      exec c s = .next v)
    ∧ (∀ k r, u.coord.run = .gathering → u.coord.step = some k → u.slot k = some r →
      (everyReady struck ∧ u.coord.source.isAt r → exec c s = .next (v.measures k r))
      ∧ (¬(everyReady struck ∧ u.coord.source.isAt r) → exec c s = .next v))
    ∧ (∀ k, u.coord.run = .measuring ∨ u.coord.run = .reported ∨ u.coord.run = .suspended →
      u.coord.step = some k → stepNumber k ≤ u.plan.length →
      (everyReported struck → exec c s = .next (v.completes k))
      ∧ (¬everyReported struck → exec c s = .next v)))
  ∧ (∀ (after : Nat) (source : Position) (why : ParkedReason) (s u : State),
    s.takesOwn after source (.parked why) u → exec (.parked after source why) s = .next u)

/-- RESET with scope RUN that matches: plan store, source view, power unit, time base, filter and CALN are kept; units,
counter, request, queue, results, roster and run go; LINK-FAULT becomes NORMAL; a CLOSED station stays CLOSED with its
record and run verdict, an energised press is cut (R18, R38, R57, R73, R94, R108, R133, R142, R148, R162). -/
def Obligations.ResetRunKeepsPlan : Prop :=
  ∀ (after : Nat) (sel : Selector) (s u : State), s.takesMatching after sel u →
    exec (.resetRun after sel) s =
      .next { u with
        front := { u.front with
          lastPulse := none, lastPeriod := none, counter := { counting := false, value := 0, overrange := false }
          nextEdge := false }
        gate := State.reset.gate
        timed := State.reset.timed
        line := { u.line with
          link := if u.line.link = .linkFault then .normal else u.line.link
          queue := OutQueue.empty, transmit := none, role := .none }
        coord := { State.reset.coord with
          source := u.coord.source
          run := if u.coord.run = .closed then .closed else if u.plan.length = 0 then .idle else .loaded
          verdict := if u.coord.run = .closed then u.coord.verdict else none }
        closure := u.closure.pressCut }

/-- RESET with scope ALL that matches: the plan store is emptied, the plan setting is the default, the run state IDLE,
the closure record EMPTY, the press OFF; source view, power unit, time base and CALN are kept (R2, R5, R18, R37, R57,
R73, R94, R108, R133, R148, R162). That a pulse which the restart of the filter met at its acceptance instant is kept,
its stamp the last pulse time where R18 makes it absent, and counted by the self-test with no period, is the model's
reading (log 31). That a filter restart makes the release time absent is the model's choice (log 38). -/
def Obligations.ResetAllEmptiesPlan : Prop :=
  ∀ (after : Nat) (sel : Selector) (s u : State) (front : FrontEnd), s.takesMatching after sel u →
    front = u.front.withSetting { edge := .rising, width := 5 } →
    exec (.resetAll after sel) s =
      .next { u with
        front := { front with
          lastPulse := if front.candidate = none then u.front.pulseAtHand else none
          lastPeriod := none, counter := { counting := false, value := 0, overrange := false }
          nextEdge := false }
        power := u.powerAfterRestart (u.front.loop == .off && u.front.planSetting != { edge := .rising, width := 5 })
        plan := State.reset.plan
        gate := State.reset.gate
        timed := State.reset.timed
        line := { u.line with
          link := if u.line.link = .linkFault then .normal else u.line.link
          queue := OutQueue.empty, transmit := none, role := .none }
        coord := { State.reset.coord with source := u.coord.source }
        closure := { record := none, press := .off, caln := u.closure.caln } }

/-! ## Closure, the source and the station frames (chapters 6 to 8) -/

/-- CLOSE in CLOSING: PASS when results 1..L all hold PASS, with CALN released, the press energised for 400 ms and the
record built with FIRED and RELEASED; else FAIL, with the record built with NOT-FIRED and HELD; the run state is CLOSED
and an enrollment ends (R103, R136 to R140, R143). In CLOSED it moves the dwell end of an energised press later by
400 ms, up to 1,200 ms in all; elsewhere it has no effect (R136, R141). -/
def Obligations.CloseSealsOrRecords : Prop :=
  ∀ (after : Nat) (sel : Selector) (s u : State) (verdicts : List Verdict) (record : RunVerdict → PressOutcome →
      CalnOutcome → ClosureRecord), s.takesMatching after sel u →
    verdicts = (u.coord.results.toList.take u.plan.length).map (fun r => r.verdict) →
    (∀ v p c, record v p c =
      { position := u.line.strap, plan := u.plan.number, verdict := v, steps := verdicts, press := p, caln := c,
        holds := u.coord.runHolds, restarts := u.coord.runRestarts }) →
    (u.coord.run = .closing → u.power.state = .awake → (∀ v ∈ verdicts, v = .pass) →
      exec (.close after sel) s =
        .next { u.unmustered with
          closure :=
            { record := some (record .pass .fired .released), press := .energised u.now (u.now + 400_000)
              caln := .released }
          coord := { u.unmustered.coord with run := .closed, verdict := some .pass } })
    ∧ (u.coord.run = .closing → ¬(∀ v ∈ verdicts, v = .pass) →
      exec (.close after sel) s =
        .next { u.unmustered with
          closure := { u.closure with record := some (record .fail .notFired .held) }
          coord := { u.unmustered.coord with run := .closed, verdict := some .fail } })
    ∧ (∀ first dwellEnd, u.coord.run = .closed → u.closure.press = .energised first dwellEnd →
      (dwellEnd < first + 1_200_000 →
        exec (.close after sel) s =
          .next { u with closure := { u.closure with press := .energised first (dwellEnd + 400_000) } })
      ∧ (first + 1_200_000 ≤ dwellEnd → exec (.close after sel) s = .next u))
    ∧ (u.coord.run = .closed → u.closure.press = .off → exec (.close after sel) s = .next u)
    ∧ (u.coord.run ≠ .closing → u.coord.run ≠ .closed → exec (.close after sel) s = .next u)

/-- RELEASE in CLOSED: the press is off, the record EMPTY, every result NONE with attempt 0, run verdict and step in
hand absent, the run state LOADED or IDLE by L; plan, roster and CALN are kept; elsewhere no effect (R147). That the
run totals of holds and restarts are kept is the model's choice (log 39). -/
def Obligations.ReleaseFreesClosedStation : Prop :=
  ∀ (after : Nat) (sel : Selector) (s u : State), s.takesMatching after sel u →
    (u.coord.run = .closed →
      exec (.release after sel) s =
        .next { u with
          closure := { u.closure with record := none, press := .off }
          coord := { u.coord with
            run := if u.plan.length = 0 then .idle else .loaded, step := none, verdict := none
            results := Vector.replicate 16
              { verdict := .none, attempt := 0, values := noValues, mark := .none, quiet := false } } })
    ∧ (u.coord.run ≠ .closed → exec (.release after sel) s = .next u)

/-- SETTLED sets the source view. With the suspension mark set and the view at the load point of the step, it restarts
the step; in GATHERING with every ACTIVE entry READY and the view at the load point, the step triggers; else nothing
more changes (R110, R113, R117, R126). -/
def Obligations.SettledTriggersOrRestarts : Prop :=
  ∀ (after : Nat) (lp : BitVec 8) (s u v : State), s.takes after u →
    v = { u with coord := { u.coord with source := .settled lp.toNat } } →
    (u.coord.step = none → exec (.settled after lp) s = .next v)
    ∧ (∀ k r, u.coord.step = some k → u.slot k = some r →
      (u.coord.suspension = true → v.coord.source.isAt r →
        exec (.settled after lp) s =
          .next { v with
            front := { u.front with nextEdge := true }
            gate := { u.gate with holdLatch := false }
            line := { u.line with
              queue := { u.line.queue with
                hold := none
                lapse := u.line.queue.lapse.filter fun e => e.frame != { step := k, phase := .measure } } }
            coord := { v.coord with
              restarts := u.coord.restarts + 1, runRestarts := u.coord.runRestarts + 1, holds := 0
              suspension := false, deadline := none, expired := false, waitEnd := some (u.now + 100_000)
              run := if u.coord.run = .suspended then .measuring else u.coord.run } })
      ∧ (u.coord.suspension = false → u.coord.run = .gathering → everyReady u.coord.roster → v.coord.source.isAt r →
        exec (.settled after lp) s = .next (v.measures k r))
      ∧ (¬v.coord.source.isAt r
          ∨ u.coord.suspension = false ∧ (u.coord.run ≠ .gathering ∨ ¬everyReady u.coord.roster) →
        exec (.settled after lp) s = .next v))

/-- DISTURBED sets the source view. In a step that has triggered, with the suspension mark clear and fewer than 3
restarts, it suspends the step: a MEASURING station voids its unit and its result, a REPORTED one keeps its result and
ends a trailing count. With 3 restarts it completes the step, VOID for those who have not reported (R55, R56, R71,
R72, R110, R125, R127). That a REPORTED station keeps a running reference wait, and that the reference-quiet mark
stays at VOID, are the model's reading (log 13, log 25); that a completion empties the fields of the units is its choice
(log 34). -/
def Obligations.DisturbedSuspendsOrVoids : Prop :=
  ∀ (after : Nat) (s u v : State), s.takes after u → v = { u with coord := { u.coord with source := .disturbed } } →
    (u.coord.step = none
        ∨ ¬(u.coord.run = .measuring ∨ u.coord.run = .reported ∨ u.coord.run = .suspended)
        ∨ u.coord.suspension = true →
      exec (.disturbed after) s = .next v)
    ∧ (∀ k, u.coord.step = some k → u.coord.suspension = false → u.coord.restarts < 3 →
      (u.coord.run = .measuring →
        exec (.disturbed after) s =
          .next { v with
            front := { u.front with nextEdge := false, counter := { u.front.counter with counting := false } }
            gate := if u.gate.state = .idle then u.gate else
              { u.gate with
                state := .armed, n := none, r := none, overrange := false, error := none, clamped := false,
                verdict := none }
            timed := if u.timed.state = .idle then u.timed else
              { u.timed with
                state := .armed, startTime := none, durationEnd := none, count := none, verdict := none,
                elapsed := none }
            line := { u.line with queue := { u.line.queue with done := none, hold := none } }
            coord := { v.coord with
              run := .suspended, suspension := true, waitEnd := none
              results := u.coord.results.set k ((u.result k).emptied .none) } })
      ∧ (u.coord.run = .reported →
        exec (.disturbed after) s =
          .next { v with
            timed := if u.timed.state = .trailing then { u.timed with state := .ended } else u.timed
            coord := { v.coord with suspension := true } }))
    ∧ (∀ k void roster, u.coord.step = some k → u.coord.suspension = false → 3 ≤ u.coord.restarts →
      stepNumber k ≤ u.plan.length →
      void = { u.result k with verdict := .void, values := noValues, mark := .none } →
      roster = u.coord.roster.map (fun m =>
        if m.standing = .active ∧ m.isReported = false then { m with phase := .reported .void } else m) →
      (u.coord.run = .measuring →
        exec (.disturbed after) s =
          .next ({ v with coord := { v.coord with
            roster := roster, results := u.coord.results.set k void } }.completes k))
      ∧ (u.coord.run = .reported →
        exec (.disturbed after) s = .next ({ v with coord := { v.coord with roster := roster } }.completes k)))

/-- PRESENT while the roster collects, with the plan number of the muster: its sender joins in the place of its position,
ACTIVE and WAITING, a position already listed stays as it is; the own PRESENT in AWAITING makes the station ENROLLED.
Any other is ignored (R95, R96). -/
def Obligations.PresentEntersRoster : Prop :=
  ∀ (after : Nat) (source : Position) (n number : BitVec 16) (s u : State) (roster : List Member),
    s.takesStation after source (.present n) u → u.rosterSafe →
    (u.coord.stage = .remembered → u.coord.remembered.map (fun m => m.plan) = some number) →
    (u.coord.stage ≠ .remembered → u.plan.number = number) →
    (u.coord.roster.any (fun m => m.position == source) = true → roster = u.coord.roster) →
    (u.coord.roster.any (fun m => m.position == source) = false →
      roster = u.coord.roster.filter (fun m => m.position < source)
        ++ [{ position := source, standing := .active, phase := .waiting }]
        ++ u.coord.roster.filter (fun m => source < m.position)) →
    (u.coord.stage ≠ .none ∨ u.coord.run = .enrolled → n = number →
      (source = u.line.strap ∧ u.coord.stage = .awaiting →
        exec (.present after source n) s =
          .next { u with coord := { u.coord with roster := roster, run := .enrolled, stage := .none } })
      ∧ (¬(source = u.line.strap ∧ u.coord.stage = .awaiting) →
        exec (.present after source n) s = .next { u with coord := { u.coord with roster := roster } }))
    ∧ (n ≠ number ∨ u.coord.stage = .none ∧ u.coord.run ≠ .enrolled →
      exec (.present after source n) s = .next u)

/-- READY(k) in GATHERING(k) from an ACTIVE member makes its entry READY, and the step triggers when then every ACTIVE
entry is READY and the source is settled at its load point; any other READY has no effect (R104, R112, R113, R128). -/
def Obligations.ReadyMarksMemberAndTriggers : Prop :=
  ∀ (after : Nat) (source : Position) (k : StepIx) (s u v : State) (roster : List Member),
    s.takesStation after source (.ready k) u →
    roster = u.coord.roster.map (fun m =>
      if m.standing = .active ∧ m.position = source then { m with phase := .ready } else m) →
    v = { u with coord := { u.coord with roster := roster } } →
    (∀ r, u.coord.run = .gathering → u.coord.step = some k → memberAt source u.coord.roster → u.slot k = some r →
      (everyReady roster ∧ u.coord.source.isAt r → exec (.ready after source k) s = .next (v.measures k r))
      ∧ (¬(everyReady roster ∧ u.coord.source.isAt r) → exec (.ready after source k) s = .next v))
    ∧ (u.coord.run ≠ .gathering ∨ u.coord.step ≠ some k ∨ ¬memberAt source u.coord.roster →
      exec (.ready after source k) s = .next u)

/-- HOLD(k) from an ACTIVE member in a step that has triggered, with the holds below the allowance of the slot: holds and
run total rise by 1, and a deadline that is present moves later by the hold extension, with the hold latch cleared and a
pending HOLD withdrawn; a pending LAPSE is withdrawn when the new deadline lies ahead, and stays with the mark set when
it does not. Any other HOLD is ignored (R34, R52, R68, R116, R117, R128). -/
def Obligations.HoldMovesDeadline : Prop :=
  ∀ (after : Nat) (source : Position) (k : StepIx) (s u v : State), s.takesStation after source (.hold k) u →
    v = { u with coord := { u.coord with holds := u.coord.holds + 1, runHolds := u.coord.runHolds + 1 } } →
    (∀ r, u.coord.run = .measuring ∨ u.coord.run = .reported ∨ u.coord.run = .suspended → u.coord.step = some k →
      memberAt source u.coord.roster → u.slot k = some r →
      (u.coord.holds < r.allowance → u.coord.deadline = none → exec (.hold after source k) s = .next v)
      ∧ (∀ d new lapsed, u.coord.holds < r.allowance → u.coord.deadline = some d →
        new = (match r.body with | .error f => d + f.extension * 1_000_000 | _ => d) →
        lapsed = u.line.queue.lapse.any (fun e => e.frame == { step := k, phase := .measure }) →
        (u.now < new →
          exec (.hold after source k) s =
            .next { v with
              gate := { u.gate with holdLatch := false }
              line := { u.line with
                queue := { u.line.queue with
                  hold := none
                  lapse := if lapsed then none else u.line.queue.lapse } }
              coord := { v.coord with deadline := some new, expired := false } })
        ∧ (new ≤ u.now →
          exec (.hold after source k) s =
            .next { v with
              gate := { u.gate with holdLatch := false }
              line := { u.line with queue := { u.line.queue with hold := none } }
              coord := { v.coord with deadline := some new, expired := lapsed } }))
      ∧ (r.allowance ≤ u.coord.holds → exec (.hold after source k) s = .next u))
    ∧ (¬(u.coord.run = .measuring ∨ u.coord.run = .reported ∨ u.coord.run = .suspended) ∨ u.coord.step ≠ some k
        ∨ ¬memberAt source u.coord.roster →
      exec (.hold after source k) s = .next u)

/-- The own DONE(k) in MEASURING(k): the own entry and the station are REPORTED, a pending LAPSE of the step is withdrawn
and, where the step is not complete and the deadline has passed, queued afresh. A peer's DONE(k) in a step that has
triggered marks its ACTIVE entry REPORTED. When every ACTIVE entry is REPORTED the step is complete. Any other DONE has
no effect (R104, R121 to R123, R128, R129). That a completion empties the fields of the units is the model's choice (log
34). -/
def Obligations.DoneReportsAndCompletes : Prop :=
  ∀ (after : Nat) (source : Position) (k : StepIx) (verdict : Verdict) (attempt : BitVec 4)
    (error : Option (BitVec 21)) (c : Instr) (s u : State) (roster : List Member),
    c = .done after source k verdict attempt error →
    roster = u.coord.roster.map (fun m =>
      if m.standing = .active ∧ m.position = source then { m with phase := .reported verdict } else m) →
    (∀ v : State, s.takesOwn after source (.done k verdict attempt error) u →
      v = { u with
        coord := { u.coord with run := .reported, roster := roster }
        line := { u.line with
          queue := { u.line.queue with
            lapse := u.line.queue.lapse.filter fun e => e.frame != { step := k, phase := .measure } } } } →
      (u.coord.run = .measuring → u.coord.step = some k → stepNumber k ≤ u.plan.length →
        (everyReported roster → exec c s = .next (v.completes k))
        ∧ (¬everyReported roster → u.coord.expired = false → exec c s = .next v)
        ∧ (¬everyReported roster → u.coord.expired = true →
          exec c s =
            .next { v with line := { v.line with
              queue := { v.line.queue with
                lapse := some { frame := { step := k, phase := .measure }, fails := 0, offered := false } } } }))
      ∧ (u.coord.run ≠ .measuring ∨ u.coord.step ≠ some k → exec c s = .next u))
    ∧ (∀ v : State, s.takesPeer after source (.done k verdict attempt error) u →
      v = { u with coord := { u.coord with roster := roster } } →
      (u.coord.run = .measuring ∨ u.coord.run = .reported ∨ u.coord.run = .suspended → u.coord.step = some k →
        memberAt source u.coord.roster → stepNumber k ≤ u.plan.length →
        (everyReported roster → exec c s = .next (v.completes k))
        ∧ (¬everyReported roster → exec c s = .next v))
      ∧ (¬(u.coord.run = .measuring ∨ u.coord.run = .reported ∨ u.coord.run = .suspended) ∨ u.coord.step ≠ some k
          ∨ ¬memberAt source u.coord.roster →
        exec c s = .next u))

/-- LAPSE(k, GATHER) in GATHERING(k) from an ACTIVE member strikes every ACTIVE entry that is WAITING, stops the gather
timer and withdraws the own LAPSE; a station struck itself ends its run, any other triggers where the source is settled.
Any other has no effect (R119, R128, R130). -/
def Obligations.GatherLapseStrikesWaiting : Prop :=
  ∀ (after : Nat) (source : Position) (k : StepIx) (s u v : State) (struck : List Member),
    s.takesStation after source (.lapse k .gather) u →
    struck = u.coord.roster.map (fun m =>
      if m.standing = .active ∧ m.phase = .waiting then { m with standing := .struck .gatherLapse } else m) →
    v = { u with
      coord := { u.coord with roster := struck, gatherEnd := none }
      line := { u.line with
        queue := { u.line.queue with
          lapse := u.line.queue.lapse.filter fun e => e.frame != { step := k, phase := .gather } } } } →
    (∀ r, u.coord.run = .gathering → u.coord.step = some k → memberAt source u.coord.roster → u.slot k = some r →
      (¬memberAt u.line.strap struck → exec (.lapseGather after source k) s = .next v.runOver)
      ∧ (memberAt u.line.strap struck → everyReady struck ∧ u.coord.source.isAt r →
        exec (.lapseGather after source k) s = .next (v.measures k r))
      ∧ (memberAt u.line.strap struck → ¬(everyReady struck ∧ u.coord.source.isAt r) →
        exec (.lapseGather after source k) s = .next v))
    ∧ (u.coord.run ≠ .gathering ∨ u.coord.step ≠ some k ∨ ¬memberAt source u.coord.roster →
      exec (.lapseGather after source k) s = .next u)

/-- LAPSE(k, MEASURE) in a step that has triggered, from an ACTIVE member, completes the step: a station that has not
reported has its result cut short, LATE where it was written; those who have not reported become REPORTED INCOMPLETE.
Any other has no effect (R53, R69, R123, R124, R128). That the reference-quiet mark stays is the model's reading (log
25), and that a completion empties the fields of the units is its choice (log 34). -/
def Obligations.MeasureLapseCompletesStep : Prop :=
  ∀ (after : Nat) (source : Position) (k : StepIx) (s u : State) (r : ResultRecord) (roster : List Member),
    s.takesStation after source (.lapse k .measure) u →
    r = (if u.coord.run = .reported then u.result k
      else u.cutShort k { u.result k with verdict := .incomplete, mark := .late }) →
    roster = u.coord.roster.map (fun m =>
      if m.standing = .active ∧ m.isReported = false then { m with phase := .reported .incomplete } else m) →
    (u.coord.run = .measuring ∨ u.coord.run = .reported ∨ u.coord.run = .suspended → u.coord.step = some k →
      memberAt source u.coord.roster → stepNumber k ≤ u.plan.length →
      exec (.lapseMeasure after source k) s =
        .next ({ u with coord := { u.coord with
          roster := roster, results := u.coord.results.set k r } }.completes k))
    ∧ (¬(u.coord.run = .measuring ∨ u.coord.run = .reported ∨ u.coord.run = .suspended) ∨ u.coord.step ≠ some k
        ∨ ¬memberAt source u.coord.roster →
      exec (.lapseMeasure after source k) s = .next u)

/-! ## Arithmetic, layouts and invariants -/

/-- R45 to R48: the outcome of a gate that closes with N and R: NOREF for R = 0, OVERRANGE with the mark, else the error
1,000,000 × (N × Cref − R × Cmut) ÷ (R × Cmut) rounded half away from zero, limited to ±999,999 ppm with the clamped
mark, and FAIL or PASS by mark and limits. The products stay below 2^47, 2^52 and 2^72. -/
def Obligations.GateOutcomeFollowsArithmetic : Prop :=
  ∀ (x : GateSettings) (n r : Nat) (saturated : Bool) (num e : Int) (m : Nat),
    num = (n * x.cref : Int) - (r * x.cmut : Int) →
    m = (2 * (1_000_000 * num.natAbs) + r * x.cmut) / (2 * (r * x.cmut)) →
    e = (if num < 0 then -(m : Int) else m) →
    (r = 0 → gateOutcome x n r saturated = { error := none, clamped := false, verdict := .noref })
    ∧ (r ≠ 0 → saturated = true → gateOutcome x n r saturated = { error := none, clamped := false, verdict := .overrange })
    ∧ (r ≠ 0 → saturated = false → 1 ≤ x.cmut →
      (999_999 < m → gateOutcome x n r saturated =
        { error := some (if num < 0 then -999_999 else 999_999), clamped := true, verdict := .fail })
      ∧ (m ≤ 999_999 → x.lower ≤ e ∧ e ≤ x.upper →
        gateOutcome x n r saturated = { error := some e, clamped := false, verdict := .pass })
      ∧ (m ≤ 999_999 → ¬(x.lower ≤ e ∧ e ≤ x.upper) →
        gateOutcome x n r saturated = { error := some e, clamped := false, verdict := .fail })
      ∧ (n ≤ 65_535 → x.cref ≤ 2_000_000_000 → r ≤ 4_294_967_294 → x.cmut ≤ 1_000_000 →
        n * x.cref < 2 ^ 47 ∧ r * x.cmut < 2 ^ 52 ∧ 1_000_000 * num.natAbs < 2 ^ 72))

/-- R46: the quotient of R45 is rounded half away from zero. The magnitude of the multiplied numerator is divided by the
divisor; where twice the remainder is equal to the divisor or greater the quotient is increased by 1; the result takes
the sign of the numerator, and a numerator of 0 gives 0. -/
def Obligations.ErrorRoundsHalfAwayFromZero : Prop :=
  ∀ n cref r cmut quotient remainder : Nat, 0 < r * cmut →
    1_000_000 * ((n * cref : Int) - (r * cmut : Int)).natAbs = quotient * (r * cmut) + remainder →
    remainder < r * cmut →
    (r * cmut < n * cref → roundedError n cref r cmut =
      if r * cmut ≤ 2 * remainder then (quotient : Int) + 1 else quotient)
    ∧ (n * cref < r * cmut → roundedError n cref r cmut =
      if r * cmut ≤ 2 * remainder then -((quotient : Int) + 1) else -(quotient : Int))
    ∧ (n * cref = r * cmut → roundedError n cref r cmut = 0)

/-- R83: a console frame matches a station when, in each of the five bits that the mask has set, the strap value and the
selector value agree; a mask of 0 matches every position and a mask of 1Fh the one position equal to the value. It is
compared at the frame with the strap value held then, shown on QUERY for STATUS. -/
def Obligations.SelectorMatchesMaskedBits : Prop :=
  (∀ (sel : Selector) (p : Position),
    (sel.covers p = true ↔ ∀ i < 5, sel.mask.getLsbD i = true → p.getLsbD i = sel.value.getLsbD i)
    ∧ (sel.mask = 0 → sel.covers p = true)
    ∧ (sel.mask = 0x1F → (sel.covers p = true ↔ p = sel.value)))
  ∧ (∀ (after : Nat) (sel : Selector) (s u : State), s.takes after u →
    ((∀ i < 5, sel.mask.getLsbD i = true → u.line.strap.getLsbD i = sel.value.getLsbD i) →
      exec (.queryStatus after sel) s =
        .next { u with
          line := { u.line with
            queue := { u.line.queue with
              reply := some { frame := { kind := .status, slot := 0 }, fails := 0, offered := false } } } })
    ∧ (¬(∀ i < 5, sel.mask.getLsbD i = true → u.line.strap.getLsbD i = sel.value.getLsbD i) →
      exec (.queryStatus after sel) s = .next u))

/-- R31 to R36: the step record formed from a STEP of every kind code, with its clamps and its validity, and the plan
length: the number of FILLED slots before the first EMPTY one. -/
def Obligations.StepRecordIsFormedFromFrame : Prop :=
  (∀ (x : StepPayload) (base floor lower upper : Int) (d : Nat),
    base = min 3_600 (max 1 (x.deadline.toNat : Int)) →
    d = min 3_600_000 (max 100 x.duration.toNat) →
    floor = ((d + 999) / 1_000 + 1 : Nat) →
    lower = min 999_999 (max (-999_999) x.lower.toInt) → upper = min 999_999 (max (-999_999) x.upper.toInt) →
    (formStepRecord x).loadPoint = x.loadPoint.toNat
    ∧ (x.kind = 1 →
      (formStepRecord x).body = .error
        { cmut := x.cmut.toNat, gate := max 1 x.gate.toNat, lower := lower, upper := upper
          extension := min 600 (max 1 x.extension.toNat) }
      ∧ (formStepRecord x).allowance = min 7 x.allowance.toNat
      ∧ (formStepRecord x).baseDeadline = base
      ∧ ((formStepRecord x).valid = true ↔
        1 ≤ x.cmut.toNat ∧ x.cmut.toNat ≤ 1_000_000 ∧ lower ≤ upper ∧ x.loadPoint ≠ 0))
    ∧ (x.kind = 2 →
      (formStepRecord x).body = .creep { duration := d, threshold := x.threshold.toNat }
      ∧ (formStepRecord x).allowance = 0
      ∧ (formStepRecord x).baseDeadline = max floor base
      ∧ ((formStepRecord x).valid = true ↔ x.loadPoint ≠ 0))
    ∧ (x.kind = 3 →
      (formStepRecord x).body = .start { duration := d, threshold := max 1 x.threshold.toNat }
      ∧ (formStepRecord x).allowance = 0
      ∧ (formStepRecord x).baseDeadline = max floor base
      ∧ ((formStepRecord x).valid = true ↔ x.loadPoint ≠ 0))
    ∧ (x.kind ≠ 1 → x.kind ≠ 2 → x.kind ≠ 3 →
      (formStepRecord x).body = .unknown
      ∧ (formStepRecord x).allowance = 0
      ∧ (formStepRecord x).baseDeadline = base
      ∧ (formStepRecord x).valid = false))
  ∧ (∀ (p : PlanStore) (l : Nat),
    p.length = l ↔ l ≤ 16 ∧ (∀ i : Fin 16, i.val < l → p.slots[i].isSome = true)
      ∧ (∀ i : Fin 16, i.val = l → p.slots[i] = none))

/-- R77, R78, R171: the base check is linear in the word with the contributions of the table; the role offsets; and a
receiver marks groups bad exactly when a check does not match its role, the frame has one word or more than fourteen, or
its length is not 2 plus the payload length of header word 2. -/
def Obligations.WordChecksFollowTable : Prop :=
  (∀ v w : Word, baseCheck (v ^^^ w) = baseCheck v ^^^ baseCheck w)
  ∧ (List.range 16).map (fun i => baseCheck (BitVec.twoPow 16 i))
    = [0x07, 0x0E, 0x1C, 0x38, 0x70, 0xE0, 0xC7, 0x89, 0x15, 0x2A, 0x54, 0xA8, 0x57, 0xAE, 0x5B, 0xB6]
  ∧ (∀ w : Word, wordCheck .head w = baseCheck w ^^^ 0x5A ∧ wordCheck .body w = baseCheck w ^^^ 0x3C
    ∧ wordCheck .final w = baseCheck w ^^^ 0xA5)
  ∧ (∀ groups : List Group, groups ≠ [] →
    (frameBad groups = true ↔
      (∃ i, ∃ h : i < groups.length,
        (groups[i]).2 ≠ wordCheck (if i = 0 then .head else if i + 1 = groups.length then .final else .body)
          (groups[i]).1)
      ∨ groups.length < 2 ∨ 14 < groups.length
      ∨ (∃ h : 1 < groups.length, groups.length ≠ 2 + ((groups[1]).1 >>> 12).toNat)))

/-- R82, R171, R172: the words of every well-formed command that is a whole frame are a well-formed frame that no
receiver marks bad, and they read back as that command with every operand. That a QUERY that uses no slot is formed with
slot 0, and bits that no table names as zero, is the model's choice (log 35, log 32). -/
def Obligations.FrameWordsReadBack : Prop :=
  ∀ (c : Instr) (words : List Word), c.wellFormed = true → frameWords c = some words →
    wellFormedFrame words = true ∧ frameBad (groupsOf words) = false ∧ takenCommand (afterOf c) words = c

/-- R163, R173: in every state the REPLY formed for each record kind has the payload length fixed for it and is a
well-formed frame from every station position, and it carries every field of its record at its place: R166 STATUS; R167
RESULT, with an empty record for slots 0 and 17..31; R168 CLOSURE, all zero when EMPTY; R169 SELFTEST, all zero when EMPTY,
with the age of R159; R170 ROSTER. The bits that no table names, and the condition of a live roster with no entries, are
the model's choice (log 32, log 33). -/
def Obligations.ReplyFormsAreWellFormed : Prop :=
  (∀ (s : State) (x : ReplyRequest) (p : Position), 1 ≤ p.toNat → p.toNat ≤ 30 →
    (s.replyPayload x).length = (match x.kind with
      | .status => 5 | .result => 9 | .closure => 7 | .selftest => 6 | .roster => 12)
    ∧ wellFormedFrame ((StationFrame.reply (s.replyPayload x)).words p) = true)
  ∧ (∀ (s : State) (slot : BitVec 5) (payload : RecordKind → List Word),
    (∀ kind, payload kind = s.replyPayload { kind := kind, slot := slot }) →
    s.statusCarried (payload .status)
    ∧ (∀ k : StepIx, slot.toNat = stepNumber k →
      resultCarried slot.toNat (s.slot k) (s.result k) (payload .result))
    ∧ (slot.toNat = 0 ∨ 17 ≤ slot.toNat →
      resultCarried slot.toNat none
        { verdict := .none, attempt := 0, values := noValues, mark := .none, quiet := false } (payload .result))
    ∧ (s.closure.record = none → payload .closure = [0x3000, 0, 0, 0, 0, 0, 0])
    ∧ (∀ r, s.closure.record = some r → closureCarried r (payload .closure))
    ∧ (s.power.selfTest = none → payload .selftest = [0x4000, 0, 0, 0, 0, 0])
    ∧ (∀ r, s.power.selfTest = some r → selfTestCarried r s.now (payload .selftest))
    ∧ s.rosterCarried (payload .roster))

/-- The state after reset meets every invariant of Safety.lean. -/
def Obligations.ResetStateIsSafe : Prop := State.reset.safe

/-- R11, R12, R20, R25, R29, R31 to R35, R47, R76, R85, R86, R91 to R93, R95, R114: every step keeps, each by itself, the
invariants of the line interface, the plan store, the roster, the results and the reference counter. -/
def Obligations.StepKeepsStores : Prop :=
  ∀ s t : State, step s = .next t →
    (s.lineSafe → t.lineSafe) ∧ (s.planSafe → t.planSafe) ∧ (s.rosterSafe → t.rosterSafe)
    ∧ (s.resultSafe → t.resultSafe) ∧ (s.counterSafe → t.counterSafe)

/-- Every step keeps all invariants of Safety.lean together: among them that PRSS is driven only in CLOSED with run
verdict PASS, AWAKE with the clamp closed and for at most 1,200 ms (R140), that CALN is asserted only in AWAKE (R143,
R144), that a run and the enrollment of an ENROLLED or AWAITING station exist only in AWAKE, and a REMEMBERED one only
in WAKING (R98, R150), that N never exceeds the gate length (R42), and that the holds of a step never exceed its
allowance (R116). -/
def Obligations.StepKeepsAllInvariants : Prop :=
  ∀ s t : State, s.safe → step s = .next t → t.safe
end

