-- ==== Sys2Proof/Laws/State.lean ====
section
/-! SUPPORT. One lemma for each block of the state and each block update, all by rfl, so that no proof unfolds a record
update. -/

namespace Sys2Proof.Machine

@[simp] theorem State.mapFront_front (s : State) (f : FrontEnd → FrontEnd) : (s.mapFront f).front = f s.front := rfl
@[simp] theorem State.mapFront_plan (s : State) (f : FrontEnd → FrontEnd) : (s.mapFront f).plan = s.plan := rfl
@[simp] theorem State.mapFront_gate (s : State) (f : FrontEnd → FrontEnd) : (s.mapFront f).gate = s.gate := rfl
@[simp] theorem State.mapFront_timed (s : State) (f : FrontEnd → FrontEnd) : (s.mapFront f).timed = s.timed := rfl
@[simp] theorem State.mapFront_line (s : State) (f : FrontEnd → FrontEnd) : (s.mapFront f).line = s.line := rfl
@[simp] theorem State.mapFront_coord (s : State) (f : FrontEnd → FrontEnd) : (s.mapFront f).coord = s.coord := rfl
@[simp] theorem State.mapFront_closure (s : State) (f : FrontEnd → FrontEnd) : (s.mapFront f).closure = s.closure := rfl
@[simp] theorem State.mapFront_power (s : State) (f : FrontEnd → FrontEnd) : (s.mapFront f).power = s.power := rfl
@[simp] theorem State.mapFront_rstnLow (s : State) (f : FrontEnd → FrontEnd) : (s.mapFront f).rstnLow = s.rstnLow := rfl
@[simp] theorem State.mapFront_freeDraws (s : State) (f : FrontEnd → FrontEnd) : (s.mapFront f).freeDraws = s.freeDraws := rfl
@[simp] theorem State.mapFront_pending (s : State) (f : FrontEnd → FrontEnd) : (s.mapFront f).pending = s.pending := rfl

@[simp] theorem State.mapPlan_front (s : State) (f : PlanStore → PlanStore) : (s.mapPlan f).front = s.front := rfl
@[simp] theorem State.mapPlan_plan (s : State) (f : PlanStore → PlanStore) : (s.mapPlan f).plan = f s.plan := rfl
@[simp] theorem State.mapPlan_gate (s : State) (f : PlanStore → PlanStore) : (s.mapPlan f).gate = s.gate := rfl
@[simp] theorem State.mapPlan_timed (s : State) (f : PlanStore → PlanStore) : (s.mapPlan f).timed = s.timed := rfl
@[simp] theorem State.mapPlan_line (s : State) (f : PlanStore → PlanStore) : (s.mapPlan f).line = s.line := rfl
@[simp] theorem State.mapPlan_coord (s : State) (f : PlanStore → PlanStore) : (s.mapPlan f).coord = s.coord := rfl
@[simp] theorem State.mapPlan_closure (s : State) (f : PlanStore → PlanStore) : (s.mapPlan f).closure = s.closure := rfl
@[simp] theorem State.mapPlan_power (s : State) (f : PlanStore → PlanStore) : (s.mapPlan f).power = s.power := rfl
@[simp] theorem State.mapPlan_rstnLow (s : State) (f : PlanStore → PlanStore) : (s.mapPlan f).rstnLow = s.rstnLow := rfl
@[simp] theorem State.mapPlan_freeDraws (s : State) (f : PlanStore → PlanStore) : (s.mapPlan f).freeDraws = s.freeDraws := rfl
@[simp] theorem State.mapPlan_pending (s : State) (f : PlanStore → PlanStore) : (s.mapPlan f).pending = s.pending := rfl

@[simp] theorem State.mapGate_front (s : State) (f : ErrorGate → ErrorGate) : (s.mapGate f).front = s.front := rfl
@[simp] theorem State.mapGate_plan (s : State) (f : ErrorGate → ErrorGate) : (s.mapGate f).plan = s.plan := rfl
@[simp] theorem State.mapGate_gate (s : State) (f : ErrorGate → ErrorGate) : (s.mapGate f).gate = f s.gate := rfl
@[simp] theorem State.mapGate_timed (s : State) (f : ErrorGate → ErrorGate) : (s.mapGate f).timed = s.timed := rfl
@[simp] theorem State.mapGate_line (s : State) (f : ErrorGate → ErrorGate) : (s.mapGate f).line = s.line := rfl
@[simp] theorem State.mapGate_coord (s : State) (f : ErrorGate → ErrorGate) : (s.mapGate f).coord = s.coord := rfl
@[simp] theorem State.mapGate_closure (s : State) (f : ErrorGate → ErrorGate) : (s.mapGate f).closure = s.closure := rfl
@[simp] theorem State.mapGate_power (s : State) (f : ErrorGate → ErrorGate) : (s.mapGate f).power = s.power := rfl
@[simp] theorem State.mapGate_rstnLow (s : State) (f : ErrorGate → ErrorGate) : (s.mapGate f).rstnLow = s.rstnLow := rfl
@[simp] theorem State.mapGate_freeDraws (s : State) (f : ErrorGate → ErrorGate) : (s.mapGate f).freeDraws = s.freeDraws := rfl
@[simp] theorem State.mapGate_pending (s : State) (f : ErrorGate → ErrorGate) : (s.mapGate f).pending = s.pending := rfl

@[simp] theorem State.mapTimed_front (s : State) (f : TimedUnit → TimedUnit) : (s.mapTimed f).front = s.front := rfl
@[simp] theorem State.mapTimed_plan (s : State) (f : TimedUnit → TimedUnit) : (s.mapTimed f).plan = s.plan := rfl
@[simp] theorem State.mapTimed_gate (s : State) (f : TimedUnit → TimedUnit) : (s.mapTimed f).gate = s.gate := rfl
@[simp] theorem State.mapTimed_timed (s : State) (f : TimedUnit → TimedUnit) : (s.mapTimed f).timed = f s.timed := rfl
@[simp] theorem State.mapTimed_line (s : State) (f : TimedUnit → TimedUnit) : (s.mapTimed f).line = s.line := rfl
@[simp] theorem State.mapTimed_coord (s : State) (f : TimedUnit → TimedUnit) : (s.mapTimed f).coord = s.coord := rfl
@[simp] theorem State.mapTimed_closure (s : State) (f : TimedUnit → TimedUnit) : (s.mapTimed f).closure = s.closure := rfl
@[simp] theorem State.mapTimed_power (s : State) (f : TimedUnit → TimedUnit) : (s.mapTimed f).power = s.power := rfl
@[simp] theorem State.mapTimed_rstnLow (s : State) (f : TimedUnit → TimedUnit) : (s.mapTimed f).rstnLow = s.rstnLow := rfl
@[simp] theorem State.mapTimed_freeDraws (s : State) (f : TimedUnit → TimedUnit) : (s.mapTimed f).freeDraws = s.freeDraws := rfl
@[simp] theorem State.mapTimed_pending (s : State) (f : TimedUnit → TimedUnit) : (s.mapTimed f).pending = s.pending := rfl

@[simp] theorem State.mapLine_front (s : State) (f : LineInterface → LineInterface) : (s.mapLine f).front = s.front := rfl
@[simp] theorem State.mapLine_plan (s : State) (f : LineInterface → LineInterface) : (s.mapLine f).plan = s.plan := rfl
@[simp] theorem State.mapLine_gate (s : State) (f : LineInterface → LineInterface) : (s.mapLine f).gate = s.gate := rfl
@[simp] theorem State.mapLine_timed (s : State) (f : LineInterface → LineInterface) : (s.mapLine f).timed = s.timed := rfl
@[simp] theorem State.mapLine_line (s : State) (f : LineInterface → LineInterface) : (s.mapLine f).line = f s.line := rfl
@[simp] theorem State.mapLine_coord (s : State) (f : LineInterface → LineInterface) : (s.mapLine f).coord = s.coord := rfl
@[simp] theorem State.mapLine_closure (s : State) (f : LineInterface → LineInterface) : (s.mapLine f).closure = s.closure := rfl
@[simp] theorem State.mapLine_power (s : State) (f : LineInterface → LineInterface) : (s.mapLine f).power = s.power := rfl
@[simp] theorem State.mapLine_rstnLow (s : State) (f : LineInterface → LineInterface) : (s.mapLine f).rstnLow = s.rstnLow := rfl
@[simp] theorem State.mapLine_freeDraws (s : State) (f : LineInterface → LineInterface) : (s.mapLine f).freeDraws = s.freeDraws := rfl
@[simp] theorem State.mapLine_pending (s : State) (f : LineInterface → LineInterface) : (s.mapLine f).pending = s.pending := rfl

@[simp] theorem State.mapCoord_front (s : State) (f : Coordinator → Coordinator) : (s.mapCoord f).front = s.front := rfl
@[simp] theorem State.mapCoord_plan (s : State) (f : Coordinator → Coordinator) : (s.mapCoord f).plan = s.plan := rfl
@[simp] theorem State.mapCoord_gate (s : State) (f : Coordinator → Coordinator) : (s.mapCoord f).gate = s.gate := rfl
@[simp] theorem State.mapCoord_timed (s : State) (f : Coordinator → Coordinator) : (s.mapCoord f).timed = s.timed := rfl
@[simp] theorem State.mapCoord_line (s : State) (f : Coordinator → Coordinator) : (s.mapCoord f).line = s.line := rfl
@[simp] theorem State.mapCoord_coord (s : State) (f : Coordinator → Coordinator) : (s.mapCoord f).coord = f s.coord := rfl
@[simp] theorem State.mapCoord_closure (s : State) (f : Coordinator → Coordinator) : (s.mapCoord f).closure = s.closure := rfl
@[simp] theorem State.mapCoord_power (s : State) (f : Coordinator → Coordinator) : (s.mapCoord f).power = s.power := rfl
@[simp] theorem State.mapCoord_rstnLow (s : State) (f : Coordinator → Coordinator) : (s.mapCoord f).rstnLow = s.rstnLow := rfl
@[simp] theorem State.mapCoord_freeDraws (s : State) (f : Coordinator → Coordinator) : (s.mapCoord f).freeDraws = s.freeDraws := rfl
@[simp] theorem State.mapCoord_pending (s : State) (f : Coordinator → Coordinator) : (s.mapCoord f).pending = s.pending := rfl

@[simp] theorem State.mapClosure_front (s : State) (f : ClosureUnit → ClosureUnit) : (s.mapClosure f).front = s.front := rfl
@[simp] theorem State.mapClosure_plan (s : State) (f : ClosureUnit → ClosureUnit) : (s.mapClosure f).plan = s.plan := rfl
@[simp] theorem State.mapClosure_gate (s : State) (f : ClosureUnit → ClosureUnit) : (s.mapClosure f).gate = s.gate := rfl
@[simp] theorem State.mapClosure_timed (s : State) (f : ClosureUnit → ClosureUnit) : (s.mapClosure f).timed = s.timed := rfl
@[simp] theorem State.mapClosure_line (s : State) (f : ClosureUnit → ClosureUnit) : (s.mapClosure f).line = s.line := rfl
@[simp] theorem State.mapClosure_coord (s : State) (f : ClosureUnit → ClosureUnit) : (s.mapClosure f).coord = s.coord := rfl
@[simp] theorem State.mapClosure_closure (s : State) (f : ClosureUnit → ClosureUnit) : (s.mapClosure f).closure = f s.closure := rfl
@[simp] theorem State.mapClosure_power (s : State) (f : ClosureUnit → ClosureUnit) : (s.mapClosure f).power = s.power := rfl
@[simp] theorem State.mapClosure_rstnLow (s : State) (f : ClosureUnit → ClosureUnit) : (s.mapClosure f).rstnLow = s.rstnLow := rfl
@[simp] theorem State.mapClosure_freeDraws (s : State) (f : ClosureUnit → ClosureUnit) : (s.mapClosure f).freeDraws = s.freeDraws := rfl
@[simp] theorem State.mapClosure_pending (s : State) (f : ClosureUnit → ClosureUnit) : (s.mapClosure f).pending = s.pending := rfl

@[simp] theorem State.mapPower_front (s : State) (f : PowerUnit → PowerUnit) : (s.mapPower f).front = s.front := rfl
@[simp] theorem State.mapPower_plan (s : State) (f : PowerUnit → PowerUnit) : (s.mapPower f).plan = s.plan := rfl
@[simp] theorem State.mapPower_gate (s : State) (f : PowerUnit → PowerUnit) : (s.mapPower f).gate = s.gate := rfl
@[simp] theorem State.mapPower_timed (s : State) (f : PowerUnit → PowerUnit) : (s.mapPower f).timed = s.timed := rfl
@[simp] theorem State.mapPower_line (s : State) (f : PowerUnit → PowerUnit) : (s.mapPower f).line = s.line := rfl
@[simp] theorem State.mapPower_coord (s : State) (f : PowerUnit → PowerUnit) : (s.mapPower f).coord = s.coord := rfl
@[simp] theorem State.mapPower_closure (s : State) (f : PowerUnit → PowerUnit) : (s.mapPower f).closure = s.closure := rfl
@[simp] theorem State.mapPower_power (s : State) (f : PowerUnit → PowerUnit) : (s.mapPower f).power = f s.power := rfl
@[simp] theorem State.mapPower_rstnLow (s : State) (f : PowerUnit → PowerUnit) : (s.mapPower f).rstnLow = s.rstnLow := rfl
@[simp] theorem State.mapPower_freeDraws (s : State) (f : PowerUnit → PowerUnit) : (s.mapPower f).freeDraws = s.freeDraws := rfl
@[simp] theorem State.mapPower_pending (s : State) (f : PowerUnit → PowerUnit) : (s.mapPower f).pending = s.pending := rfl

@[simp] theorem State.mapQueue_front (s : State) (f : OutQueue → OutQueue) : (s.mapQueue f).front = s.front := rfl
@[simp] theorem State.mapQueue_plan (s : State) (f : OutQueue → OutQueue) : (s.mapQueue f).plan = s.plan := rfl
@[simp] theorem State.mapQueue_gate (s : State) (f : OutQueue → OutQueue) : (s.mapQueue f).gate = s.gate := rfl
@[simp] theorem State.mapQueue_timed (s : State) (f : OutQueue → OutQueue) : (s.mapQueue f).timed = s.timed := rfl
@[simp] theorem State.mapQueue_line (s : State) (f : OutQueue → OutQueue) : (s.mapQueue f).line = { s.line with queue := f s.line.queue } := rfl
@[simp] theorem State.mapQueue_coord (s : State) (f : OutQueue → OutQueue) : (s.mapQueue f).coord = s.coord := rfl
@[simp] theorem State.mapQueue_closure (s : State) (f : OutQueue → OutQueue) : (s.mapQueue f).closure = s.closure := rfl
@[simp] theorem State.mapQueue_power (s : State) (f : OutQueue → OutQueue) : (s.mapQueue f).power = s.power := rfl
@[simp] theorem State.mapQueue_rstnLow (s : State) (f : OutQueue → OutQueue) : (s.mapQueue f).rstnLow = s.rstnLow := rfl
@[simp] theorem State.mapQueue_freeDraws (s : State) (f : OutQueue → OutQueue) : (s.mapQueue f).freeDraws = s.freeDraws := rfl
@[simp] theorem State.mapQueue_pending (s : State) (f : OutQueue → OutQueue) : (s.mapQueue f).pending = s.pending := rfl

@[simp] theorem State.mapRoster_front (s : State) (f : List Member → List Member) : (s.mapRoster f).front = s.front := rfl
@[simp] theorem State.mapRoster_plan (s : State) (f : List Member → List Member) : (s.mapRoster f).plan = s.plan := rfl
@[simp] theorem State.mapRoster_gate (s : State) (f : List Member → List Member) : (s.mapRoster f).gate = s.gate := rfl
@[simp] theorem State.mapRoster_timed (s : State) (f : List Member → List Member) : (s.mapRoster f).timed = s.timed := rfl
@[simp] theorem State.mapRoster_line (s : State) (f : List Member → List Member) : (s.mapRoster f).line = s.line := rfl
@[simp] theorem State.mapRoster_coord (s : State) (f : List Member → List Member) : (s.mapRoster f).coord = { s.coord with roster := f s.coord.roster } := rfl
@[simp] theorem State.mapRoster_closure (s : State) (f : List Member → List Member) : (s.mapRoster f).closure = s.closure := rfl
@[simp] theorem State.mapRoster_power (s : State) (f : List Member → List Member) : (s.mapRoster f).power = s.power := rfl
@[simp] theorem State.mapRoster_rstnLow (s : State) (f : List Member → List Member) : (s.mapRoster f).rstnLow = s.rstnLow := rfl
@[simp] theorem State.mapRoster_freeDraws (s : State) (f : List Member → List Member) : (s.mapRoster f).freeDraws = s.freeDraws := rfl
@[simp] theorem State.mapRoster_pending (s : State) (f : List Member → List Member) : (s.mapRoster f).pending = s.pending := rfl

@[simp] theorem State.setResult_front (s : State) (k : StepIx) (r : ResultRecord) :
    (s.setResult k r).front = s.front := rfl
@[simp] theorem State.setResult_plan (s : State) (k : StepIx) (r : ResultRecord) :
    (s.setResult k r).plan = s.plan := rfl
@[simp] theorem State.setResult_gate (s : State) (k : StepIx) (r : ResultRecord) :
    (s.setResult k r).gate = s.gate := rfl
@[simp] theorem State.setResult_timed (s : State) (k : StepIx) (r : ResultRecord) :
    (s.setResult k r).timed = s.timed := rfl
@[simp] theorem State.setResult_line (s : State) (k : StepIx) (r : ResultRecord) :
    (s.setResult k r).line = s.line := rfl
@[simp] theorem State.setResult_coord (s : State) (k : StepIx) (r : ResultRecord) :
    (s.setResult k r).coord = { s.coord with results := s.coord.results.set k r } := rfl
@[simp] theorem State.setResult_closure (s : State) (k : StepIx) (r : ResultRecord) :
    (s.setResult k r).closure = s.closure := rfl
@[simp] theorem State.setResult_power (s : State) (k : StepIx) (r : ResultRecord) :
    (s.setResult k r).power = s.power := rfl
@[simp] theorem State.setResult_rstnLow (s : State) (k : StepIx) (r : ResultRecord) :
    (s.setResult k r).rstnLow = s.rstnLow := rfl
@[simp] theorem State.setResult_freeDraws (s : State) (k : StepIx) (r : ResultRecord) :
    (s.setResult k r).freeDraws = s.freeDraws := rfl
@[simp] theorem State.setResult_pending (s : State) (k : StepIx) (r : ResultRecord) :
    (s.setResult k r).pending = s.pending := rfl

@[simp] theorem State.withPending_front (s : State) (q : List Instr) : (s.withPending q).front = s.front := rfl
@[simp] theorem State.withPending_plan (s : State) (q : List Instr) : (s.withPending q).plan = s.plan := rfl
@[simp] theorem State.withPending_gate (s : State) (q : List Instr) : (s.withPending q).gate = s.gate := rfl
@[simp] theorem State.withPending_timed (s : State) (q : List Instr) : (s.withPending q).timed = s.timed := rfl
@[simp] theorem State.withPending_line (s : State) (q : List Instr) : (s.withPending q).line = s.line := rfl
@[simp] theorem State.withPending_coord (s : State) (q : List Instr) : (s.withPending q).coord = s.coord := rfl
@[simp] theorem State.withPending_closure (s : State) (q : List Instr) : (s.withPending q).closure = s.closure := rfl
@[simp] theorem State.withPending_power (s : State) (q : List Instr) : (s.withPending q).power = s.power := rfl
@[simp] theorem State.withPending_rstnLow (s : State) (q : List Instr) : (s.withPending q).rstnLow = s.rstnLow := rfl
@[simp] theorem State.withPending_freeDraws (s : State) (q : List Instr) : (s.withPending q).freeDraws = s.freeDraws := rfl
@[simp] theorem State.withPending_pending (s : State) (q : List Instr) : (s.withPending q).pending = q := rfl

end Sys2Proof.Machine
end

