-- ==== Sys2Proof/Laws/Frames.lean ====
section
/-! SUPPORT. What each operation over the state leaves unchanged: one lemma for each operation, as simp rules. -/

namespace Sys2Proof.Machine

@[simp] theorem State.request_keeps (s : State) (f : OutQueue → OutQueue) :
    (s.request f).front = s.front ∧
    (s.request f).plan = s.plan ∧
    (s.request f).gate = s.gate ∧
    (s.request f).timed = s.timed ∧
    (s.request f).line.strap = s.line.strap ∧
    (s.request f).line.link = s.line.link ∧
    (s.request f).line.phase = s.line.phase ∧
    (s.request f).line.endSlot = s.line.endSlot ∧
    (s.request f).line.gapEnd = s.line.gapEnd ∧
    (s.request f).line.recessiveSince = s.line.recessiveSince ∧
    (s.request f).line.receive = s.line.receive ∧
    (s.request f).line.transmit = s.line.transmit ∧
    (s.request f).line.role = s.line.role ∧
    (s.request f).line.abortDriven = s.line.abortDriven ∧
    (s.request f).coord = s.coord ∧
    (s.request f).closure = s.closure ∧
    (s.request f).power = s.power ∧
    (s.request f).rstnLow = s.rstnLow ∧
    (s.request f).freeDraws = s.freeDraws ∧
    (s.request f).pending = s.pending := by
  simp only [State.request]
  split <;> simp

@[simp] theorem State.stopCounter_keeps (s : State) :
    (s.stopCounter).front.timeBase = s.front.timeBase ∧
    (s.stopCounter).front.mtp = s.front.mtp ∧
    (s.stopCounter).front.planSetting = s.front.planSetting ∧
    (s.stopCounter).front.input = s.front.input ∧
    (s.stopCounter).front.candidate = s.front.candidate ∧
    (s.stopCounter).front.releaseTime = s.front.releaseTime ∧
    (s.stopCounter).front.lastPulse = s.front.lastPulse ∧
    (s.stopCounter).front.lastPeriod = s.front.lastPeriod ∧
    (s.stopCounter).front.nextEdge = s.front.nextEdge ∧
    (s.stopCounter).front.refSeen = s.front.refSeen ∧
    (s.stopCounter).front.loop = s.front.loop ∧
    (s.stopCounter).plan = s.plan ∧
    (s.stopCounter).gate = s.gate ∧
    (s.stopCounter).timed = s.timed ∧
    (s.stopCounter).line = s.line ∧
    (s.stopCounter).coord = s.coord ∧
    (s.stopCounter).closure = s.closure ∧
    (s.stopCounter).power = s.power ∧
    (s.stopCounter).rstnLow = s.rstnLow ∧
    (s.stopCounter).freeDraws = s.freeDraws ∧
    (s.stopCounter).pending = s.pending := by
  simp only [State.stopCounter]
  simp

@[simp] theorem State.startReferenceWait_keeps (s : State) :
    (s.startReferenceWait).front.timeBase = s.front.timeBase ∧
    (s.startReferenceWait).front.mtp = s.front.mtp ∧
    (s.startReferenceWait).front.planSetting = s.front.planSetting ∧
    (s.startReferenceWait).front.input = s.front.input ∧
    (s.startReferenceWait).front.candidate = s.front.candidate ∧
    (s.startReferenceWait).front.releaseTime = s.front.releaseTime ∧
    (s.startReferenceWait).front.lastPulse = s.front.lastPulse ∧
    (s.startReferenceWait).front.lastPeriod = s.front.lastPeriod ∧
    (s.startReferenceWait).front.counter = s.front.counter ∧
    (s.startReferenceWait).front.refSeen = s.front.refSeen ∧
    (s.startReferenceWait).front.loop = s.front.loop ∧
    (s.startReferenceWait).plan = s.plan ∧
    (s.startReferenceWait).gate = s.gate ∧
    (s.startReferenceWait).timed = s.timed ∧
    (s.startReferenceWait).line = s.line ∧
    (s.startReferenceWait).coord.run = s.coord.run ∧
    (s.startReferenceWait).coord.step = s.coord.step ∧
    (s.startReferenceWait).coord.source = s.coord.source ∧
    (s.startReferenceWait).coord.roster = s.coord.roster ∧
    (s.startReferenceWait).coord.stage = s.coord.stage ∧
    (s.startReferenceWait).coord.home = s.coord.home ∧
    (s.startReferenceWait).coord.remembered = s.coord.remembered ∧
    (s.startReferenceWait).coord.windowEnd = s.coord.windowEnd ∧
    (s.startReferenceWait).coord.verdict = s.coord.verdict ∧
    (s.startReferenceWait).coord.results = s.coord.results ∧
    (s.startReferenceWait).coord.gatherEnd = s.coord.gatherEnd ∧
    (s.startReferenceWait).coord.deadline = s.coord.deadline ∧
    (s.startReferenceWait).coord.expired = s.coord.expired ∧
    (s.startReferenceWait).coord.suspension = s.coord.suspension ∧
    (s.startReferenceWait).coord.holds = s.coord.holds ∧
    (s.startReferenceWait).coord.restarts = s.coord.restarts ∧
    (s.startReferenceWait).coord.runHolds = s.coord.runHolds ∧
    (s.startReferenceWait).coord.runRestarts = s.coord.runRestarts ∧
    (s.startReferenceWait).closure = s.closure ∧
    (s.startReferenceWait).power = s.power ∧
    (s.startReferenceWait).rstnLow = s.rstnLow ∧
    (s.startReferenceWait).freeDraws = s.freeDraws ∧
    (s.startReferenceWait).pending = s.pending := by
  simp only [State.startReferenceWait]
  simp

@[simp] theorem State.stopReferenceWait_keeps (s : State) :
    (s.stopReferenceWait).front.timeBase = s.front.timeBase ∧
    (s.stopReferenceWait).front.mtp = s.front.mtp ∧
    (s.stopReferenceWait).front.planSetting = s.front.planSetting ∧
    (s.stopReferenceWait).front.input = s.front.input ∧
    (s.stopReferenceWait).front.candidate = s.front.candidate ∧
    (s.stopReferenceWait).front.releaseTime = s.front.releaseTime ∧
    (s.stopReferenceWait).front.lastPulse = s.front.lastPulse ∧
    (s.stopReferenceWait).front.lastPeriod = s.front.lastPeriod ∧
    (s.stopReferenceWait).front.counter = s.front.counter ∧
    (s.stopReferenceWait).front.refSeen = s.front.refSeen ∧
    (s.stopReferenceWait).front.loop = s.front.loop ∧
    (s.stopReferenceWait).plan = s.plan ∧
    (s.stopReferenceWait).gate = s.gate ∧
    (s.stopReferenceWait).timed = s.timed ∧
    (s.stopReferenceWait).line = s.line ∧
    (s.stopReferenceWait).coord.run = s.coord.run ∧
    (s.stopReferenceWait).coord.step = s.coord.step ∧
    (s.stopReferenceWait).coord.source = s.coord.source ∧
    (s.stopReferenceWait).coord.roster = s.coord.roster ∧
    (s.stopReferenceWait).coord.stage = s.coord.stage ∧
    (s.stopReferenceWait).coord.home = s.coord.home ∧
    (s.stopReferenceWait).coord.remembered = s.coord.remembered ∧
    (s.stopReferenceWait).coord.windowEnd = s.coord.windowEnd ∧
    (s.stopReferenceWait).coord.verdict = s.coord.verdict ∧
    (s.stopReferenceWait).coord.results = s.coord.results ∧
    (s.stopReferenceWait).coord.gatherEnd = s.coord.gatherEnd ∧
    (s.stopReferenceWait).coord.deadline = s.coord.deadline ∧
    (s.stopReferenceWait).coord.expired = s.coord.expired ∧
    (s.stopReferenceWait).coord.suspension = s.coord.suspension ∧
    (s.stopReferenceWait).coord.holds = s.coord.holds ∧
    (s.stopReferenceWait).coord.restarts = s.coord.restarts ∧
    (s.stopReferenceWait).coord.runHolds = s.coord.runHolds ∧
    (s.stopReferenceWait).coord.runRestarts = s.coord.runRestarts ∧
    (s.stopReferenceWait).closure = s.closure ∧
    (s.stopReferenceWait).power = s.power ∧
    (s.stopReferenceWait).rstnLow = s.rstnLow ∧
    (s.stopReferenceWait).freeDraws = s.freeDraws ∧
    (s.stopReferenceWait).pending = s.pending := by
  simp only [State.stopReferenceWait]
  simp

@[simp] theorem State.queueLapse_keeps (s : State) (k : StepIx) (p : LapsePhase) :
    (s.queueLapse k p).front = s.front ∧
    (s.queueLapse k p).plan = s.plan ∧
    (s.queueLapse k p).gate = s.gate ∧
    (s.queueLapse k p).timed = s.timed ∧
    (s.queueLapse k p).line.strap = s.line.strap ∧
    (s.queueLapse k p).line.link = s.line.link ∧
    (s.queueLapse k p).line.phase = s.line.phase ∧
    (s.queueLapse k p).line.endSlot = s.line.endSlot ∧
    (s.queueLapse k p).line.gapEnd = s.line.gapEnd ∧
    (s.queueLapse k p).line.recessiveSince = s.line.recessiveSince ∧
    (s.queueLapse k p).line.receive = s.line.receive ∧
    (s.queueLapse k p).line.transmit = s.line.transmit ∧
    (s.queueLapse k p).line.role = s.line.role ∧
    (s.queueLapse k p).line.abortDriven = s.line.abortDriven ∧
    (s.queueLapse k p).coord = s.coord ∧
    (s.queueLapse k p).closure = s.closure ∧
    (s.queueLapse k p).power = s.power ∧
    (s.queueLapse k p).rstnLow = s.rstnLow ∧
    (s.queueLapse k p).freeDraws = s.freeDraws ∧
    (s.queueLapse k p).pending = s.pending := by
  simp only [State.queueLapse]
  simp

@[simp] theorem State.queueParked_keeps (s : State) (r : ParkedReason) :
    (s.queueParked r).front = s.front ∧
    (s.queueParked r).plan = s.plan ∧
    (s.queueParked r).gate = s.gate ∧
    (s.queueParked r).timed = s.timed ∧
    (s.queueParked r).line.strap = s.line.strap ∧
    (s.queueParked r).line.link = s.line.link ∧
    (s.queueParked r).line.phase = s.line.phase ∧
    (s.queueParked r).line.endSlot = s.line.endSlot ∧
    (s.queueParked r).line.gapEnd = s.line.gapEnd ∧
    (s.queueParked r).line.recessiveSince = s.line.recessiveSince ∧
    (s.queueParked r).line.receive = s.line.receive ∧
    (s.queueParked r).line.transmit = s.line.transmit ∧
    (s.queueParked r).line.role = s.line.role ∧
    (s.queueParked r).line.abortDriven = s.line.abortDriven ∧
    (s.queueParked r).coord = s.coord ∧
    (s.queueParked r).closure = s.closure ∧
    (s.queueParked r).power = s.power ∧
    (s.queueParked r).rstnLow = s.rstnLow ∧
    (s.queueParked r).freeDraws = s.freeDraws ∧
    (s.queueParked r).pending = s.pending := by
  simp only [State.queueParked]
  simp

@[simp] theorem State.queueReady_keeps (s : State) (k : StepIx) :
    (s.queueReady k).front = s.front ∧
    (s.queueReady k).plan = s.plan ∧
    (s.queueReady k).gate = s.gate ∧
    (s.queueReady k).timed = s.timed ∧
    (s.queueReady k).line.strap = s.line.strap ∧
    (s.queueReady k).line.link = s.line.link ∧
    (s.queueReady k).line.phase = s.line.phase ∧
    (s.queueReady k).line.endSlot = s.line.endSlot ∧
    (s.queueReady k).line.gapEnd = s.line.gapEnd ∧
    (s.queueReady k).line.recessiveSince = s.line.recessiveSince ∧
    (s.queueReady k).line.receive = s.line.receive ∧
    (s.queueReady k).line.transmit = s.line.transmit ∧
    (s.queueReady k).line.role = s.line.role ∧
    (s.queueReady k).line.abortDriven = s.line.abortDriven ∧
    (s.queueReady k).coord = s.coord ∧
    (s.queueReady k).closure = s.closure ∧
    (s.queueReady k).power = s.power ∧
    (s.queueReady k).rstnLow = s.rstnLow ∧
    (s.queueReady k).freeDraws = s.freeDraws ∧
    (s.queueReady k).pending = s.pending := by
  simp only [State.queueReady]
  simp

@[simp] theorem State.queueHold_keeps (s : State) (k : StepIx) :
    (s.queueHold k).front = s.front ∧
    (s.queueHold k).plan = s.plan ∧
    (s.queueHold k).gate = s.gate ∧
    (s.queueHold k).timed = s.timed ∧
    (s.queueHold k).line.strap = s.line.strap ∧
    (s.queueHold k).line.link = s.line.link ∧
    (s.queueHold k).line.phase = s.line.phase ∧
    (s.queueHold k).line.endSlot = s.line.endSlot ∧
    (s.queueHold k).line.gapEnd = s.line.gapEnd ∧
    (s.queueHold k).line.recessiveSince = s.line.recessiveSince ∧
    (s.queueHold k).line.receive = s.line.receive ∧
    (s.queueHold k).line.transmit = s.line.transmit ∧
    (s.queueHold k).line.role = s.line.role ∧
    (s.queueHold k).line.abortDriven = s.line.abortDriven ∧
    (s.queueHold k).coord = s.coord ∧
    (s.queueHold k).closure = s.closure ∧
    (s.queueHold k).power = s.power ∧
    (s.queueHold k).rstnLow = s.rstnLow ∧
    (s.queueHold k).freeDraws = s.freeDraws ∧
    (s.queueHold k).pending = s.pending := by
  simp only [State.queueHold]
  simp

@[simp] theorem State.queuePresent_keeps (s : State) (n : BitVec 16) :
    (s.queuePresent n).front = s.front ∧
    (s.queuePresent n).plan = s.plan ∧
    (s.queuePresent n).gate = s.gate ∧
    (s.queuePresent n).timed = s.timed ∧
    (s.queuePresent n).line.strap = s.line.strap ∧
    (s.queuePresent n).line.link = s.line.link ∧
    (s.queuePresent n).line.phase = s.line.phase ∧
    (s.queuePresent n).line.endSlot = s.line.endSlot ∧
    (s.queuePresent n).line.gapEnd = s.line.gapEnd ∧
    (s.queuePresent n).line.recessiveSince = s.line.recessiveSince ∧
    (s.queuePresent n).line.receive = s.line.receive ∧
    (s.queuePresent n).line.transmit = s.line.transmit ∧
    (s.queuePresent n).line.role = s.line.role ∧
    (s.queuePresent n).line.abortDriven = s.line.abortDriven ∧
    (s.queuePresent n).coord = s.coord ∧
    (s.queuePresent n).closure = s.closure ∧
    (s.queuePresent n).power = s.power ∧
    (s.queuePresent n).rstnLow = s.rstnLow ∧
    (s.queuePresent n).freeDraws = s.freeDraws ∧
    (s.queuePresent n).pending = s.pending := by
  simp only [State.queuePresent]
  simp

@[simp] theorem State.queueReply_keeps (s : State) (kind : RecordKind) (slot : BitVec 5) :
    (s.queueReply kind slot).front = s.front ∧
    (s.queueReply kind slot).plan = s.plan ∧
    (s.queueReply kind slot).gate = s.gate ∧
    (s.queueReply kind slot).timed = s.timed ∧
    (s.queueReply kind slot).line.strap = s.line.strap ∧
    (s.queueReply kind slot).line.link = s.line.link ∧
    (s.queueReply kind slot).line.phase = s.line.phase ∧
    (s.queueReply kind slot).line.endSlot = s.line.endSlot ∧
    (s.queueReply kind slot).line.gapEnd = s.line.gapEnd ∧
    (s.queueReply kind slot).line.recessiveSince = s.line.recessiveSince ∧
    (s.queueReply kind slot).line.receive = s.line.receive ∧
    (s.queueReply kind slot).line.transmit = s.line.transmit ∧
    (s.queueReply kind slot).line.role = s.line.role ∧
    (s.queueReply kind slot).line.abortDriven = s.line.abortDriven ∧
    (s.queueReply kind slot).coord = s.coord ∧
    (s.queueReply kind slot).closure = s.closure ∧
    (s.queueReply kind slot).power = s.power ∧
    (s.queueReply kind slot).rstnLow = s.rstnLow ∧
    (s.queueReply kind slot).freeDraws = s.freeDraws ∧
    (s.queueReply kind slot).pending = s.pending := by
  simp only [State.queueReply]
  simp

@[simp] theorem State.queueDone_keeps (s : State) (k : StepIx) :
    (s.queueDone k).front = s.front ∧
    (s.queueDone k).plan = s.plan ∧
    (s.queueDone k).gate = s.gate ∧
    (s.queueDone k).timed = s.timed ∧
    (s.queueDone k).line.strap = s.line.strap ∧
    (s.queueDone k).line.link = s.line.link ∧
    (s.queueDone k).line.phase = s.line.phase ∧
    (s.queueDone k).line.endSlot = s.line.endSlot ∧
    (s.queueDone k).line.gapEnd = s.line.gapEnd ∧
    (s.queueDone k).line.recessiveSince = s.line.recessiveSince ∧
    (s.queueDone k).line.receive = s.line.receive ∧
    (s.queueDone k).line.transmit = s.line.transmit ∧
    (s.queueDone k).line.role = s.line.role ∧
    (s.queueDone k).line.abortDriven = s.line.abortDriven ∧
    (s.queueDone k).coord = s.coord ∧
    (s.queueDone k).closure = s.closure ∧
    (s.queueDone k).power = s.power ∧
    (s.queueDone k).rstnLow = s.rstnLow ∧
    (s.queueDone k).freeDraws = s.freeDraws ∧
    (s.queueDone k).pending = s.pending := by
  simp only [State.queueDone]
  simp

@[simp] theorem State.withdrawReady_keeps (s : State) :
    (s.withdrawReady).front = s.front ∧
    (s.withdrawReady).plan = s.plan ∧
    (s.withdrawReady).gate = s.gate ∧
    (s.withdrawReady).timed = s.timed ∧
    (s.withdrawReady).line.strap = s.line.strap ∧
    (s.withdrawReady).line.link = s.line.link ∧
    (s.withdrawReady).line.phase = s.line.phase ∧
    (s.withdrawReady).line.endSlot = s.line.endSlot ∧
    (s.withdrawReady).line.gapEnd = s.line.gapEnd ∧
    (s.withdrawReady).line.recessiveSince = s.line.recessiveSince ∧
    (s.withdrawReady).line.receive = s.line.receive ∧
    (s.withdrawReady).line.transmit = s.line.transmit ∧
    (s.withdrawReady).line.role = s.line.role ∧
    (s.withdrawReady).line.abortDriven = s.line.abortDriven ∧
    (s.withdrawReady).coord = s.coord ∧
    (s.withdrawReady).closure = s.closure ∧
    (s.withdrawReady).power = s.power ∧
    (s.withdrawReady).rstnLow = s.rstnLow ∧
    (s.withdrawReady).freeDraws = s.freeDraws ∧
    (s.withdrawReady).pending = s.pending := by
  simp only [State.withdrawReady]
  simp

@[simp] theorem State.withdrawHold_keeps (s : State) :
    (s.withdrawHold).front = s.front ∧
    (s.withdrawHold).plan = s.plan ∧
    (s.withdrawHold).gate = s.gate ∧
    (s.withdrawHold).timed = s.timed ∧
    (s.withdrawHold).line.strap = s.line.strap ∧
    (s.withdrawHold).line.link = s.line.link ∧
    (s.withdrawHold).line.phase = s.line.phase ∧
    (s.withdrawHold).line.endSlot = s.line.endSlot ∧
    (s.withdrawHold).line.gapEnd = s.line.gapEnd ∧
    (s.withdrawHold).line.recessiveSince = s.line.recessiveSince ∧
    (s.withdrawHold).line.receive = s.line.receive ∧
    (s.withdrawHold).line.transmit = s.line.transmit ∧
    (s.withdrawHold).line.role = s.line.role ∧
    (s.withdrawHold).line.abortDriven = s.line.abortDriven ∧
    (s.withdrawHold).coord = s.coord ∧
    (s.withdrawHold).closure = s.closure ∧
    (s.withdrawHold).power = s.power ∧
    (s.withdrawHold).rstnLow = s.rstnLow ∧
    (s.withdrawHold).freeDraws = s.freeDraws ∧
    (s.withdrawHold).pending = s.pending := by
  simp only [State.withdrawHold]
  simp

@[simp] theorem State.withdrawDone_keeps (s : State) :
    (s.withdrawDone).front = s.front ∧
    (s.withdrawDone).plan = s.plan ∧
    (s.withdrawDone).gate = s.gate ∧
    (s.withdrawDone).timed = s.timed ∧
    (s.withdrawDone).line.strap = s.line.strap ∧
    (s.withdrawDone).line.link = s.line.link ∧
    (s.withdrawDone).line.phase = s.line.phase ∧
    (s.withdrawDone).line.endSlot = s.line.endSlot ∧
    (s.withdrawDone).line.gapEnd = s.line.gapEnd ∧
    (s.withdrawDone).line.recessiveSince = s.line.recessiveSince ∧
    (s.withdrawDone).line.receive = s.line.receive ∧
    (s.withdrawDone).line.transmit = s.line.transmit ∧
    (s.withdrawDone).line.role = s.line.role ∧
    (s.withdrawDone).line.abortDriven = s.line.abortDriven ∧
    (s.withdrawDone).coord = s.coord ∧
    (s.withdrawDone).closure = s.closure ∧
    (s.withdrawDone).power = s.power ∧
    (s.withdrawDone).rstnLow = s.rstnLow ∧
    (s.withdrawDone).freeDraws = s.freeDraws ∧
    (s.withdrawDone).pending = s.pending := by
  simp only [State.withdrawDone]
  simp

@[simp] theorem State.withdrawPresent_keeps (s : State) :
    (s.withdrawPresent).front = s.front ∧
    (s.withdrawPresent).plan = s.plan ∧
    (s.withdrawPresent).gate = s.gate ∧
    (s.withdrawPresent).timed = s.timed ∧
    (s.withdrawPresent).line.strap = s.line.strap ∧
    (s.withdrawPresent).line.link = s.line.link ∧
    (s.withdrawPresent).line.phase = s.line.phase ∧
    (s.withdrawPresent).line.endSlot = s.line.endSlot ∧
    (s.withdrawPresent).line.gapEnd = s.line.gapEnd ∧
    (s.withdrawPresent).line.recessiveSince = s.line.recessiveSince ∧
    (s.withdrawPresent).line.receive = s.line.receive ∧
    (s.withdrawPresent).line.transmit = s.line.transmit ∧
    (s.withdrawPresent).line.role = s.line.role ∧
    (s.withdrawPresent).line.abortDriven = s.line.abortDriven ∧
    (s.withdrawPresent).coord = s.coord ∧
    (s.withdrawPresent).closure = s.closure ∧
    (s.withdrawPresent).power = s.power ∧
    (s.withdrawPresent).rstnLow = s.rstnLow ∧
    (s.withdrawPresent).freeDraws = s.freeDraws ∧
    (s.withdrawPresent).pending = s.pending := by
  simp only [State.withdrawPresent]
  simp

@[simp] theorem State.withdrawLapse_keeps (s : State) (k : StepIx) (p : LapsePhase) :
    (s.withdrawLapse k p).front = s.front ∧
    (s.withdrawLapse k p).plan = s.plan ∧
    (s.withdrawLapse k p).gate = s.gate ∧
    (s.withdrawLapse k p).timed = s.timed ∧
    (s.withdrawLapse k p).line.strap = s.line.strap ∧
    (s.withdrawLapse k p).line.link = s.line.link ∧
    (s.withdrawLapse k p).line.phase = s.line.phase ∧
    (s.withdrawLapse k p).line.endSlot = s.line.endSlot ∧
    (s.withdrawLapse k p).line.gapEnd = s.line.gapEnd ∧
    (s.withdrawLapse k p).line.recessiveSince = s.line.recessiveSince ∧
    (s.withdrawLapse k p).line.receive = s.line.receive ∧
    (s.withdrawLapse k p).line.transmit = s.line.transmit ∧
    (s.withdrawLapse k p).line.role = s.line.role ∧
    (s.withdrawLapse k p).line.abortDriven = s.line.abortDriven ∧
    (s.withdrawLapse k p).coord = s.coord ∧
    (s.withdrawLapse k p).closure = s.closure ∧
    (s.withdrawLapse k p).power = s.power ∧
    (s.withdrawLapse k p).rstnLow = s.rstnLow ∧
    (s.withdrawLapse k p).freeDraws = s.freeDraws ∧
    (s.withdrawLapse k p).pending = s.pending := by
  simp only [State.withdrawLapse]
  (repeat' split) <;> simp

@[simp] theorem State.withdrawStepFrames_keeps (s : State) :
    (s.withdrawStepFrames).front = s.front ∧
    (s.withdrawStepFrames).plan = s.plan ∧
    (s.withdrawStepFrames).gate = s.gate ∧
    (s.withdrawStepFrames).timed = s.timed ∧
    (s.withdrawStepFrames).line.strap = s.line.strap ∧
    (s.withdrawStepFrames).line.link = s.line.link ∧
    (s.withdrawStepFrames).line.phase = s.line.phase ∧
    (s.withdrawStepFrames).line.endSlot = s.line.endSlot ∧
    (s.withdrawStepFrames).line.gapEnd = s.line.gapEnd ∧
    (s.withdrawStepFrames).line.recessiveSince = s.line.recessiveSince ∧
    (s.withdrawStepFrames).line.receive = s.line.receive ∧
    (s.withdrawStepFrames).line.transmit = s.line.transmit ∧
    (s.withdrawStepFrames).line.role = s.line.role ∧
    (s.withdrawStepFrames).line.abortDriven = s.line.abortDriven ∧
    (s.withdrawStepFrames).coord = s.coord ∧
    (s.withdrawStepFrames).closure = s.closure ∧
    (s.withdrawStepFrames).power = s.power ∧
    (s.withdrawStepFrames).rstnLow = s.rstnLow ∧
    (s.withdrawStepFrames).freeDraws = s.freeDraws ∧
    (s.withdrawStepFrames).pending = s.pending := by
  simp only [State.withdrawStepFrames]
  simp

@[simp] theorem State.clearResult_keeps (s : State) (k : StepIx) :
    (s.clearResult k).front = s.front ∧
    (s.clearResult k).plan = s.plan ∧
    (s.clearResult k).gate = s.gate ∧
    (s.clearResult k).timed = s.timed ∧
    (s.clearResult k).line = s.line ∧
    (s.clearResult k).coord.run = s.coord.run ∧
    (s.clearResult k).coord.step = s.coord.step ∧
    (s.clearResult k).coord.source = s.coord.source ∧
    (s.clearResult k).coord.roster = s.coord.roster ∧
    (s.clearResult k).coord.stage = s.coord.stage ∧
    (s.clearResult k).coord.home = s.coord.home ∧
    (s.clearResult k).coord.remembered = s.coord.remembered ∧
    (s.clearResult k).coord.windowEnd = s.coord.windowEnd ∧
    (s.clearResult k).coord.verdict = s.coord.verdict ∧
    (s.clearResult k).coord.gatherEnd = s.coord.gatherEnd ∧
    (s.clearResult k).coord.waitEnd = s.coord.waitEnd ∧
    (s.clearResult k).coord.deadline = s.coord.deadline ∧
    (s.clearResult k).coord.expired = s.coord.expired ∧
    (s.clearResult k).coord.suspension = s.coord.suspension ∧
    (s.clearResult k).coord.holds = s.coord.holds ∧
    (s.clearResult k).coord.restarts = s.coord.restarts ∧
    (s.clearResult k).coord.runHolds = s.coord.runHolds ∧
    (s.clearResult k).coord.runRestarts = s.coord.runRestarts ∧
    (s.clearResult k).closure = s.closure ∧
    (s.clearResult k).power = s.power ∧
    (s.clearResult k).rstnLow = s.rstnLow ∧
    (s.clearResult k).freeDraws = s.freeDraws ∧
    (s.clearResult k).pending = s.pending := by
  simp only [State.clearResult]
  simp

@[simp] theorem State.toRest_keeps (s : State) :
    (s.toRest).front = s.front ∧
    (s.toRest).plan = s.plan ∧
    (s.toRest).gate = s.gate ∧
    (s.toRest).timed = s.timed ∧
    (s.toRest).line = s.line ∧
    (s.toRest).coord.source = s.coord.source ∧
    (s.toRest).coord.roster = s.coord.roster ∧
    (s.toRest).coord.stage = s.coord.stage ∧
    (s.toRest).coord.home = s.coord.home ∧
    (s.toRest).coord.remembered = s.coord.remembered ∧
    (s.toRest).coord.windowEnd = s.coord.windowEnd ∧
    (s.toRest).coord.verdict = s.coord.verdict ∧
    (s.toRest).coord.results = s.coord.results ∧
    (s.toRest).coord.gatherEnd = s.coord.gatherEnd ∧
    (s.toRest).coord.waitEnd = s.coord.waitEnd ∧
    (s.toRest).coord.deadline = s.coord.deadline ∧
    (s.toRest).coord.expired = s.coord.expired ∧
    (s.toRest).coord.suspension = s.coord.suspension ∧
    (s.toRest).coord.holds = s.coord.holds ∧
    (s.toRest).coord.restarts = s.coord.restarts ∧
    (s.toRest).coord.runHolds = s.coord.runHolds ∧
    (s.toRest).coord.runRestarts = s.coord.runRestarts ∧
    (s.toRest).closure = s.closure ∧
    (s.toRest).power = s.power ∧
    (s.toRest).rstnLow = s.rstnLow ∧
    (s.toRest).freeDraws = s.freeDraws ∧
    (s.toRest).pending = s.pending := by
  simp only [State.toRest]
  simp

@[simp] theorem State.toLoaded_keeps (s : State) :
    (s.toLoaded).front = s.front ∧
    (s.toLoaded).plan = s.plan ∧
    (s.toLoaded).gate = s.gate ∧
    (s.toLoaded).timed = s.timed ∧
    (s.toLoaded).line = s.line ∧
    (s.toLoaded).coord.source = s.coord.source ∧
    (s.toLoaded).coord.roster = s.coord.roster ∧
    (s.toLoaded).coord.stage = s.coord.stage ∧
    (s.toLoaded).coord.home = s.coord.home ∧
    (s.toLoaded).coord.remembered = s.coord.remembered ∧
    (s.toLoaded).coord.windowEnd = s.coord.windowEnd ∧
    (s.toLoaded).coord.verdict = s.coord.verdict ∧
    (s.toLoaded).coord.results = s.coord.results ∧
    (s.toLoaded).coord.gatherEnd = s.coord.gatherEnd ∧
    (s.toLoaded).coord.waitEnd = s.coord.waitEnd ∧
    (s.toLoaded).coord.deadline = s.coord.deadline ∧
    (s.toLoaded).coord.expired = s.coord.expired ∧
    (s.toLoaded).coord.suspension = s.coord.suspension ∧
    (s.toLoaded).coord.holds = s.coord.holds ∧
    (s.toLoaded).coord.restarts = s.coord.restarts ∧
    (s.toLoaded).coord.runHolds = s.coord.runHolds ∧
    (s.toLoaded).coord.runRestarts = s.coord.runRestarts ∧
    (s.toLoaded).closure = s.closure ∧
    (s.toLoaded).power = s.power ∧
    (s.toLoaded).rstnLow = s.rstnLow ∧
    (s.toLoaded).freeDraws = s.freeDraws ∧
    (s.toLoaded).pending = s.pending := by
  simp only [State.toLoaded]
  simp

@[simp] theorem State.timedToIdle_keeps (s : State) :
    (s.timedToIdle).front = s.front ∧
    (s.timedToIdle).plan = s.plan ∧
    (s.timedToIdle).gate = s.gate ∧
    (s.timedToIdle).line = s.line ∧
    (s.timedToIdle).coord = s.coord ∧
    (s.timedToIdle).closure = s.closure ∧
    (s.timedToIdle).power = s.power ∧
    (s.timedToIdle).rstnLow = s.rstnLow ∧
    (s.timedToIdle).freeDraws = s.freeDraws ∧
    (s.timedToIdle).pending = s.pending := by
  simp only [State.timedToIdle]
  simp

@[simp] theorem State.cutPress_keeps (s : State) :
    (s.cutPress).front = s.front ∧
    (s.cutPress).plan = s.plan ∧
    (s.cutPress).gate = s.gate ∧
    (s.cutPress).timed = s.timed ∧
    (s.cutPress).line = s.line ∧
    (s.cutPress).coord = s.coord ∧
    (s.cutPress).power = s.power ∧
    (s.cutPress).rstnLow = s.rstnLow ∧
    (s.cutPress).freeDraws = s.freeDraws ∧
    (s.cutPress).pending = s.pending := by
  simp only [State.cutPress]
  simp

@[simp] theorem State.releaseCaln_keeps (s : State) :
    (s.releaseCaln).front = s.front ∧
    (s.releaseCaln).plan = s.plan ∧
    (s.releaseCaln).gate = s.gate ∧
    (s.releaseCaln).timed = s.timed ∧
    (s.releaseCaln).line = s.line ∧
    (s.releaseCaln).coord = s.coord ∧
    (s.releaseCaln).closure.record = s.closure.record ∧
    (s.releaseCaln).closure.press = s.closure.press ∧
    (s.releaseCaln).power = s.power ∧
    (s.releaseCaln).rstnLow = s.rstnLow ∧
    (s.releaseCaln).freeDraws = s.freeDraws ∧
    (s.releaseCaln).pending = s.pending := by
  simp only [State.releaseCaln]
  simp

@[simp] theorem State.assertCaln_keeps (s : State) :
    (s.assertCaln).front = s.front ∧
    (s.assertCaln).plan = s.plan ∧
    (s.assertCaln).gate = s.gate ∧
    (s.assertCaln).timed = s.timed ∧
    (s.assertCaln).line = s.line ∧
    (s.assertCaln).coord = s.coord ∧
    (s.assertCaln).closure.record = s.closure.record ∧
    (s.assertCaln).closure.press = s.closure.press ∧
    (s.assertCaln).power = s.power ∧
    (s.assertCaln).rstnLow = s.rstnLow ∧
    (s.assertCaln).freeDraws = s.freeDraws ∧
    (s.assertCaln).pending = s.pending := by
  simp only [State.assertCaln]
  simp

@[simp] theorem State.enterWaking_keeps (s : State) :
    (s.enterWaking).front.timeBase = s.front.timeBase ∧
    (s.enterWaking).front.mtp = s.front.mtp ∧
    (s.enterWaking).front.planSetting = s.front.planSetting ∧
    (s.enterWaking).front.input = s.front.input ∧
    (s.enterWaking).front.candidate = s.front.candidate ∧
    (s.enterWaking).front.releaseTime = s.front.releaseTime ∧
    (s.enterWaking).front.lastPulse = s.front.lastPulse ∧
    (s.enterWaking).front.lastPeriod = s.front.lastPeriod ∧
    (s.enterWaking).front.counter = s.front.counter ∧
    (s.enterWaking).front.nextEdge = s.front.nextEdge ∧
    (s.enterWaking).front.loop = s.front.loop ∧
    (s.enterWaking).plan = s.plan ∧
    (s.enterWaking).gate = s.gate ∧
    (s.enterWaking).timed = s.timed ∧
    (s.enterWaking).line = s.line ∧
    (s.enterWaking).coord = s.coord ∧
    (s.enterWaking).closure = s.closure ∧
    (s.enterWaking).power.clamp = s.power.clamp ∧
    (s.enterWaking).power.selfTest = s.power.selfTest ∧
    (s.enterWaking).rstnLow = s.rstnLow ∧
    (s.enterWaking).freeDraws = s.freeDraws ∧
    (s.enterWaking).pending = s.pending := by
  simp only [State.enterWaking]
  simp

@[simp] theorem State.startGate_keeps (s : State) :
    (s.startGate).plan = s.plan ∧
    (s.startGate).gate.step = s.gate.step ∧
    (s.startGate).gate.settings = s.gate.settings ∧
    (s.startGate).gate.n = s.gate.n ∧
    (s.startGate).gate.error = s.gate.error ∧
    (s.startGate).timed = s.timed ∧
    (s.startGate).line = s.line ∧
    (s.startGate).coord = s.coord ∧
    (s.startGate).closure = s.closure ∧
    (s.startGate).power = s.power ∧
    (s.startGate).rstnLow = s.rstnLow ∧
    (s.startGate).freeDraws = s.freeDraws ∧
    (s.startGate).pending = s.pending := by
  simp only [State.startGate]
  (repeat' split) <;> simp

@[simp] theorem State.startTimed_keeps (s : State) (t0 : Nat) :
    (s.startTimed t0).front = s.front ∧
    (s.startTimed t0).plan = s.plan ∧
    (s.startTimed t0).gate = s.gate ∧
    (s.startTimed t0).timed.step = s.timed.step ∧
    (s.startTimed t0).timed.settings = s.timed.settings ∧
    (s.startTimed t0).line = s.line ∧
    (s.startTimed t0).coord = s.coord ∧
    (s.startTimed t0).closure = s.closure ∧
    (s.startTimed t0).power = s.power ∧
    (s.startTimed t0).rstnLow = s.rstnLow ∧
    (s.startTimed t0).freeDraws = s.freeDraws ∧
    (s.startTimed t0).pending = s.pending := by
  simp only [State.startTimed]
  (repeat' split) <;> simp

@[simp] theorem State.clampResult_keeps (s : State) (k : StepIx) :
    (s.clampResult k).front = s.front ∧
    (s.clampResult k).plan = s.plan ∧
    (s.clampResult k).gate = s.gate ∧
    (s.clampResult k).timed = s.timed ∧
    (s.clampResult k).line = s.line ∧
    (s.clampResult k).coord.run = s.coord.run ∧
    (s.clampResult k).coord.step = s.coord.step ∧
    (s.clampResult k).coord.source = s.coord.source ∧
    (s.clampResult k).coord.roster = s.coord.roster ∧
    (s.clampResult k).coord.stage = s.coord.stage ∧
    (s.clampResult k).coord.home = s.coord.home ∧
    (s.clampResult k).coord.remembered = s.coord.remembered ∧
    (s.clampResult k).coord.windowEnd = s.coord.windowEnd ∧
    (s.clampResult k).coord.verdict = s.coord.verdict ∧
    (s.clampResult k).coord.gatherEnd = s.coord.gatherEnd ∧
    (s.clampResult k).coord.waitEnd = s.coord.waitEnd ∧
    (s.clampResult k).coord.deadline = s.coord.deadline ∧
    (s.clampResult k).coord.expired = s.coord.expired ∧
    (s.clampResult k).coord.suspension = s.coord.suspension ∧
    (s.clampResult k).coord.holds = s.coord.holds ∧
    (s.clampResult k).coord.restarts = s.coord.restarts ∧
    (s.clampResult k).coord.runHolds = s.coord.runHolds ∧
    (s.clampResult k).coord.runRestarts = s.coord.runRestarts ∧
    (s.clampResult k).closure = s.closure ∧
    (s.clampResult k).power = s.power ∧
    (s.clampResult k).rstnLow = s.rstnLow ∧
    (s.clampResult k).freeDraws = s.freeDraws ∧
    (s.clampResult k).pending = s.pending := by
  simp only [State.clampResult]
  (repeat' split) <;> simp

@[simp] theorem State.suspendReported_keeps (s : State) :
    (s.suspendReported).front = s.front ∧
    (s.suspendReported).plan = s.plan ∧
    (s.suspendReported).gate = s.gate ∧
    (s.suspendReported).line = s.line ∧
    (s.suspendReported).coord.run = s.coord.run ∧
    (s.suspendReported).coord.step = s.coord.step ∧
    (s.suspendReported).coord.source = s.coord.source ∧
    (s.suspendReported).coord.roster = s.coord.roster ∧
    (s.suspendReported).coord.stage = s.coord.stage ∧
    (s.suspendReported).coord.home = s.coord.home ∧
    (s.suspendReported).coord.remembered = s.coord.remembered ∧
    (s.suspendReported).coord.windowEnd = s.coord.windowEnd ∧
    (s.suspendReported).coord.verdict = s.coord.verdict ∧
    (s.suspendReported).coord.results = s.coord.results ∧
    (s.suspendReported).coord.gatherEnd = s.coord.gatherEnd ∧
    (s.suspendReported).coord.waitEnd = s.coord.waitEnd ∧
    (s.suspendReported).coord.deadline = s.coord.deadline ∧
    (s.suspendReported).coord.expired = s.coord.expired ∧
    (s.suspendReported).coord.holds = s.coord.holds ∧
    (s.suspendReported).coord.restarts = s.coord.restarts ∧
    (s.suspendReported).coord.runHolds = s.coord.runHolds ∧
    (s.suspendReported).coord.runRestarts = s.coord.runRestarts ∧
    (s.suspendReported).closure = s.closure ∧
    (s.suspendReported).power = s.power ∧
    (s.suspendReported).rstnLow = s.rstnLow ∧
    (s.suspendReported).freeDraws = s.freeDraws ∧
    (s.suspendReported).pending = s.pending := by
  simp only [State.suspendReported]
  simp

@[simp] theorem State.openGate_keeps (s : State) :
    (s.openGate).front.timeBase = s.front.timeBase ∧
    (s.openGate).front.mtp = s.front.mtp ∧
    (s.openGate).front.planSetting = s.front.planSetting ∧
    (s.openGate).front.input = s.front.input ∧
    (s.openGate).front.candidate = s.front.candidate ∧
    (s.openGate).front.releaseTime = s.front.releaseTime ∧
    (s.openGate).front.lastPulse = s.front.lastPulse ∧
    (s.openGate).front.lastPeriod = s.front.lastPeriod ∧
    (s.openGate).front.nextEdge = s.front.nextEdge ∧
    (s.openGate).front.refSeen = s.front.refSeen ∧
    (s.openGate).front.loop = s.front.loop ∧
    (s.openGate).plan = s.plan ∧
    (s.openGate).gate.step = s.gate.step ∧
    (s.openGate).gate.settings = s.gate.settings ∧
    (s.openGate).gate.error = s.gate.error ∧
    (s.openGate).timed = s.timed ∧
    (s.openGate).line = s.line ∧
    (s.openGate).coord = s.coord ∧
    (s.openGate).closure = s.closure ∧
    (s.openGate).power = s.power ∧
    (s.openGate).rstnLow = s.rstnLow ∧
    (s.openGate).freeDraws = s.freeDraws ∧
    (s.openGate).pending = s.pending := by
  simp only [State.openGate]
  simp

@[simp] theorem State.trailTimed_keeps (s : State) (k : StepIx) (count : Nat) :
    (s.trailTimed k count).front = s.front ∧
    (s.trailTimed k count).plan = s.plan ∧
    (s.trailTimed k count).gate = s.gate ∧
    (s.trailTimed k count).timed.state = s.timed.state ∧
    (s.trailTimed k count).timed.step = s.timed.step ∧
    (s.trailTimed k count).timed.settings = s.timed.settings ∧
    (s.trailTimed k count).line = s.line ∧
    (s.trailTimed k count).coord.run = s.coord.run ∧
    (s.trailTimed k count).coord.step = s.coord.step ∧
    (s.trailTimed k count).coord.source = s.coord.source ∧
    (s.trailTimed k count).coord.roster = s.coord.roster ∧
    (s.trailTimed k count).coord.stage = s.coord.stage ∧
    (s.trailTimed k count).coord.home = s.coord.home ∧
    (s.trailTimed k count).coord.remembered = s.coord.remembered ∧
    (s.trailTimed k count).coord.windowEnd = s.coord.windowEnd ∧
    (s.trailTimed k count).coord.verdict = s.coord.verdict ∧
    (s.trailTimed k count).coord.gatherEnd = s.coord.gatherEnd ∧
    (s.trailTimed k count).coord.waitEnd = s.coord.waitEnd ∧
    (s.trailTimed k count).coord.deadline = s.coord.deadline ∧
    (s.trailTimed k count).coord.expired = s.coord.expired ∧
    (s.trailTimed k count).coord.suspension = s.coord.suspension ∧
    (s.trailTimed k count).coord.holds = s.coord.holds ∧
    (s.trailTimed k count).coord.restarts = s.coord.restarts ∧
    (s.trailTimed k count).coord.runHolds = s.coord.runHolds ∧
    (s.trailTimed k count).coord.runRestarts = s.coord.runRestarts ∧
    (s.trailTimed k count).closure = s.closure ∧
    (s.trailTimed k count).power = s.power ∧
    (s.trailTimed k count).rstnLow = s.rstnLow ∧
    (s.trailTimed k count).freeDraws = s.freeDraws ∧
    (s.trailTimed k count).pending = s.pending := by
  simp only [State.trailTimed]
  simp

@[simp] theorem State.selfTestPulse_keeps (s : State) (period : Option Nat) :
    (s.selfTestPulse period).front = s.front ∧
    (s.selfTestPulse period).plan = s.plan ∧
    (s.selfTestPulse period).gate = s.gate ∧
    (s.selfTestPulse period).timed = s.timed ∧
    (s.selfTestPulse period).line = s.line ∧
    (s.selfTestPulse period).coord = s.coord ∧
    (s.selfTestPulse period).closure = s.closure ∧
    (s.selfTestPulse period).power.state = s.power.state ∧
    (s.selfTestPulse period).power.clamp = s.power.clamp ∧
    (s.selfTestPulse period).power.parkedSince = s.power.parkedSince ∧
    (s.selfTestPulse period).power.heldClosing = s.power.heldClosing ∧
    (s.selfTestPulse period).power.wakeStart = s.power.wakeStart ∧
    (s.selfTestPulse period).power.selfTest = s.power.selfTest ∧
    (s.selfTestPulse period).power.hdpw = s.power.hdpw ∧
    (s.selfTestPulse period).rstnLow = s.rstnLow ∧
    (s.selfTestPulse period).freeDraws = s.freeDraws ∧
    (s.selfTestPulse period).pending = s.pending := by
  simp only [State.selfTestPulse]
  (repeat' split) <;> simp

@[simp] theorem State.rearmFilter_keeps (s : State) :
    (s.rearmFilter).front.timeBase = s.front.timeBase ∧
    (s.rearmFilter).front.mtp = s.front.mtp ∧
    (s.rearmFilter).front.planSetting = s.front.planSetting ∧
    (s.rearmFilter).front.candidate = s.front.candidate ∧
    (s.rearmFilter).front.lastPulse = s.front.lastPulse ∧
    (s.rearmFilter).front.lastPeriod = s.front.lastPeriod ∧
    (s.rearmFilter).front.counter = s.front.counter ∧
    (s.rearmFilter).front.nextEdge = s.front.nextEdge ∧
    (s.rearmFilter).front.refSeen = s.front.refSeen ∧
    (s.rearmFilter).front.loop = s.front.loop ∧
    (s.rearmFilter).plan = s.plan ∧
    (s.rearmFilter).gate = s.gate ∧
    (s.rearmFilter).timed = s.timed ∧
    (s.rearmFilter).line = s.line ∧
    (s.rearmFilter).coord = s.coord ∧
    (s.rearmFilter).closure = s.closure ∧
    (s.rearmFilter).power = s.power ∧
    (s.rearmFilter).rstnLow = s.rstnLow ∧
    (s.rearmFilter).freeDraws = s.freeDraws ∧
    (s.rearmFilter).pending = s.pending := by
  simp only [State.rearmFilter]
  (repeat' split) <;> simp

@[simp] theorem State.countEdge_keeps (s : State) :
    (s.countEdge).front.timeBase = s.front.timeBase ∧
    (s.countEdge).front.mtp = s.front.mtp ∧
    (s.countEdge).front.planSetting = s.front.planSetting ∧
    (s.countEdge).front.input = s.front.input ∧
    (s.countEdge).front.candidate = s.front.candidate ∧
    (s.countEdge).front.releaseTime = s.front.releaseTime ∧
    (s.countEdge).front.lastPulse = s.front.lastPulse ∧
    (s.countEdge).front.lastPeriod = s.front.lastPeriod ∧
    (s.countEdge).front.nextEdge = s.front.nextEdge ∧
    (s.countEdge).front.loop = s.front.loop ∧
    (s.countEdge).plan = s.plan ∧
    (s.countEdge).gate = s.gate ∧
    (s.countEdge).timed = s.timed ∧
    (s.countEdge).line = s.line ∧
    (s.countEdge).coord = s.coord ∧
    (s.countEdge).closure = s.closure ∧
    (s.countEdge).power = s.power ∧
    (s.countEdge).rstnLow = s.rstnLow ∧
    (s.countEdge).freeDraws = s.freeDraws ∧
    (s.countEdge).pending = s.pending := by
  simp only [State.countEdge]
  simp

@[simp] theorem State.endDwell_keeps (s : State) :
    (s.endDwell).front = s.front ∧
    (s.endDwell).plan = s.plan ∧
    (s.endDwell).gate = s.gate ∧
    (s.endDwell).timed = s.timed ∧
    (s.endDwell).line = s.line ∧
    (s.endDwell).coord = s.coord ∧
    (s.endDwell).closure.record = s.closure.record ∧
    (s.endDwell).closure.caln = s.closure.caln ∧
    (s.endDwell).power = s.power ∧
    (s.endDwell).rstnLow = s.rstnLow ∧
    (s.endDwell).freeDraws = s.freeDraws ∧
    (s.endDwell).pending = s.pending := by
  simp only [State.endDwell]
  simp

@[simp] theorem State.setTime_keeps (s : State) (t : Nat) :
    (s.setTime t).front.mtp = s.front.mtp ∧
    (s.setTime t).front.planSetting = s.front.planSetting ∧
    (s.setTime t).front.input = s.front.input ∧
    (s.setTime t).front.candidate = s.front.candidate ∧
    (s.setTime t).front.releaseTime = s.front.releaseTime ∧
    (s.setTime t).front.lastPulse = s.front.lastPulse ∧
    (s.setTime t).front.lastPeriod = s.front.lastPeriod ∧
    (s.setTime t).front.counter = s.front.counter ∧
    (s.setTime t).front.nextEdge = s.front.nextEdge ∧
    (s.setTime t).front.refSeen = s.front.refSeen ∧
    (s.setTime t).front.loop = s.front.loop ∧
    (s.setTime t).plan = s.plan ∧
    (s.setTime t).gate = s.gate ∧
    (s.setTime t).timed = s.timed ∧
    (s.setTime t).coord = s.coord ∧
    (s.setTime t).closure = s.closure ∧
    (s.setTime t).power = s.power ∧
    (s.setTime t).rstnLow = s.rstnLow ∧
    (s.setTime t).freeDraws = s.freeDraws ∧
    (s.setTime t).pending = s.pending := by
  simp only [State.setTime]
  simp

@[simp] theorem State.beginAttempt_keeps (s : State) (f : StationFrame) :
    (s.beginAttempt f).front = s.front ∧
    (s.beginAttempt f).plan = s.plan ∧
    (s.beginAttempt f).gate = s.gate ∧
    (s.beginAttempt f).timed = s.timed ∧
    (s.beginAttempt f).line.strap = s.line.strap ∧
    (s.beginAttempt f).line.link = s.line.link ∧
    (s.beginAttempt f).line.endSlot = s.line.endSlot ∧
    (s.beginAttempt f).line.gapEnd = s.line.gapEnd ∧
    (s.beginAttempt f).line.recessiveSince = s.line.recessiveSince ∧
    (s.beginAttempt f).line.receive = s.line.receive ∧
    (s.beginAttempt f).line.abortDriven = s.line.abortDriven ∧
    (s.beginAttempt f).coord = s.coord ∧
    (s.beginAttempt f).closure = s.closure ∧
    (s.beginAttempt f).power = s.power ∧
    (s.beginAttempt f).rstnLow = s.rstnLow ∧
    (s.beginAttempt f).freeDraws = s.freeDraws ∧
    (s.beginAttempt f).pending = s.pending := by
  simp only [State.beginAttempt]
  simp

@[simp] theorem State.readBack_keeps (s : State) (f : StationFrame) (outcome : AttemptOutcome) :
    (s.readBack f outcome).front = s.front ∧
    (s.readBack f outcome).plan = s.plan ∧
    (s.readBack f outcome).gate = s.gate ∧
    (s.readBack f outcome).timed = s.timed ∧
    (s.readBack f outcome).coord = s.coord ∧
    (s.readBack f outcome).closure = s.closure ∧
    (s.readBack f outcome).power = s.power ∧
    (s.readBack f outcome).rstnLow = s.rstnLow ∧
    (s.readBack f outcome).freeDraws = s.freeDraws ∧
    (s.readBack f outcome).pending = s.pending := by
  simp only [State.readBack]
  (repeat' split) <;> simp

@[simp] theorem State.hearStart_keeps (s : State) (groups : Nat) :
    (s.hearStart groups).front = s.front ∧
    (s.hearStart groups).plan = s.plan ∧
    (s.hearStart groups).gate = s.gate ∧
    (s.hearStart groups).timed = s.timed ∧
    (s.hearStart groups).coord = s.coord ∧
    (s.hearStart groups).closure = s.closure ∧
    (s.hearStart groups).power = s.power ∧
    (s.hearStart groups).rstnLow = s.rstnLow ∧
    (s.hearStart groups).freeDraws = s.freeDraws ∧
    (s.hearStart groups).pending = s.pending := by
  simp only [State.hearStart]
  (repeat' split) <;> simp

@[simp] theorem State.frameEnds_keeps (s : State) :
    (s.frameEnds).front = s.front ∧
    (s.frameEnds).plan = s.plan ∧
    (s.frameEnds).gate = s.gate ∧
    (s.frameEnds).timed = s.timed ∧
    (s.frameEnds).line.strap = s.line.strap ∧
    (s.frameEnds).line.link = s.line.link ∧
    (s.frameEnds).line.recessiveSince = s.line.recessiveSince ∧
    (s.frameEnds).line.queue = s.line.queue ∧
    (s.frameEnds).line.transmit = s.line.transmit ∧
    (s.frameEnds).line.role = s.line.role ∧
    (s.frameEnds).coord = s.coord ∧
    (s.frameEnds).closure = s.closure ∧
    (s.frameEnds).power = s.power ∧
    (s.frameEnds).rstnLow = s.rstnLow ∧
    (s.frameEnds).freeDraws = s.freeDraws ∧
    (s.frameEnds).pending = s.pending := by
  simp only [State.frameEnds]
  simp

@[simp] theorem State.receiveGroups_keeps (s : State) (groups : List Group) :
    (s.receiveGroups groups).front = s.front ∧
    (s.receiveGroups groups).plan = s.plan ∧
    (s.receiveGroups groups).gate = s.gate ∧
    (s.receiveGroups groups).timed = s.timed ∧
    (s.receiveGroups groups).line.strap = s.line.strap ∧
    (s.receiveGroups groups).line.link = s.line.link ∧
    (s.receiveGroups groups).line.endSlot = s.line.endSlot ∧
    (s.receiveGroups groups).line.gapEnd = s.line.gapEnd ∧
    (s.receiveGroups groups).line.recessiveSince = s.line.recessiveSince ∧
    (s.receiveGroups groups).line.queue = s.line.queue ∧
    (s.receiveGroups groups).line.transmit = s.line.transmit ∧
    (s.receiveGroups groups).line.role = s.line.role ∧
    (s.receiveGroups groups).line.abortDriven = s.line.abortDriven ∧
    (s.receiveGroups groups).coord = s.coord ∧
    (s.receiveGroups groups).closure = s.closure ∧
    (s.receiveGroups groups).power = s.power ∧
    (s.receiveGroups groups).rstnLow = s.rstnLow ∧
    (s.receiveGroups groups).freeDraws = s.freeDraws ∧
    (s.receiveGroups groups).pending = s.pending := by
  simp only [State.receiveGroups]
  simp

@[simp] theorem State.hearFrame_keeps (s : State) (groups : List Group) :
    (s.hearFrame groups).front = s.front ∧
    (s.hearFrame groups).plan = s.plan ∧
    (s.hearFrame groups).gate = s.gate ∧
    (s.hearFrame groups).timed = s.timed ∧
    (s.hearFrame groups).coord = s.coord ∧
    (s.hearFrame groups).closure = s.closure ∧
    (s.hearFrame groups).power = s.power ∧
    (s.hearFrame groups).rstnLow = s.rstnLow ∧
    (s.hearFrame groups).freeDraws = s.freeDraws ∧
    (s.hearFrame groups).pending = s.pending := by
  simp only [State.hearFrame]
  simp

@[simp] theorem State.ownTaken_keeps (s : State) (f : StationFrame) :
    (s.ownTaken f).front = s.front ∧
    (s.ownTaken f).plan = s.plan ∧
    (s.ownTaken f).gate = s.gate ∧
    (s.ownTaken f).timed = s.timed ∧
    (s.ownTaken f).coord = s.coord ∧
    (s.ownTaken f).closure = s.closure ∧
    (s.ownTaken f).power = s.power ∧
    (s.ownTaken f).rstnLow = s.rstnLow ∧
    (s.ownTaken f).freeDraws = s.freeDraws ∧
    (s.ownTaken f).pending = s.pending := by
  simp only [State.ownTaken]
  simp

@[simp] theorem State.endJoining_keeps (s : State) :
    (s.endJoining).front = s.front ∧
    (s.endJoining).plan = s.plan ∧
    (s.endJoining).gate = s.gate ∧
    (s.endJoining).timed = s.timed ∧
    (s.endJoining).line.strap = s.line.strap ∧
    (s.endJoining).line.link = s.line.link ∧
    (s.endJoining).line.endSlot = s.line.endSlot ∧
    (s.endJoining).line.gapEnd = s.line.gapEnd ∧
    (s.endJoining).line.recessiveSince = s.line.recessiveSince ∧
    (s.endJoining).line.receive = s.line.receive ∧
    (s.endJoining).line.queue = s.line.queue ∧
    (s.endJoining).line.transmit = s.line.transmit ∧
    (s.endJoining).line.role = s.line.role ∧
    (s.endJoining).line.abortDriven = s.line.abortDriven ∧
    (s.endJoining).coord = s.coord ∧
    (s.endJoining).closure = s.closure ∧
    (s.endJoining).power = s.power ∧
    (s.endJoining).rstnLow = s.rstnLow ∧
    (s.endJoining).freeDraws = s.freeDraws ∧
    (s.endJoining).pending = s.pending := by
  simp only [State.endJoining]
  (repeat' split) <;> simp

@[simp] theorem State.holdReset_keeps (s : State) :
    (s.holdReset).plan = s.plan ∧
    (s.holdReset).gate = s.gate ∧
    (s.holdReset).timed = s.timed ∧
    (s.holdReset).coord = s.coord ∧
    (s.holdReset).closure.record = s.closure.record ∧
    (s.holdReset).power = s.power ∧
    (s.holdReset).freeDraws = s.freeDraws ∧
    (s.holdReset).pending = s.pending := by
  simp only [State.holdReset]
  simp

@[simp] theorem State.setClamp_keeps (s : State) (c : ClampLevel) :
    (s.setClamp c).front = s.front ∧
    (s.setClamp c).plan = s.plan ∧
    (s.setClamp c).gate = s.gate ∧
    (s.setClamp c).timed = s.timed ∧
    (s.setClamp c).line = s.line ∧
    (s.setClamp c).coord = s.coord ∧
    (s.setClamp c).closure = s.closure ∧
    (s.setClamp c).power.state = s.power.state ∧
    (s.setClamp c).power.parkedSince = s.power.parkedSince ∧
    (s.setClamp c).power.heldClosing = s.power.heldClosing ∧
    (s.setClamp c).power.wakeStart = s.power.wakeStart ∧
    (s.setClamp c).power.tally = s.power.tally ∧
    (s.setClamp c).power.selfTest = s.power.selfTest ∧
    (s.setClamp c).power.hdpw = s.power.hdpw ∧
    (s.setClamp c).rstnLow = s.rstnLow ∧
    (s.setClamp c).freeDraws = s.freeDraws ∧
    (s.setClamp c).pending = s.pending := by
  simp only [State.setClamp]
  simp

@[simp] theorem State.ignorePlan_keeps (s : State) :
    (s.ignorePlan).front = s.front ∧
    (s.ignorePlan).plan.number = s.plan.number ∧
    (s.ignorePlan).plan.slots = s.plan.slots ∧
    (s.ignorePlan).plan.fields = s.plan.fields ∧
    (s.ignorePlan).gate = s.gate ∧
    (s.ignorePlan).timed = s.timed ∧
    (s.ignorePlan).line = s.line ∧
    (s.ignorePlan).coord = s.coord ∧
    (s.ignorePlan).closure = s.closure ∧
    (s.ignorePlan).power = s.power ∧
    (s.ignorePlan).rstnLow = s.rstnLow ∧
    (s.ignorePlan).freeDraws = s.freeDraws ∧
    (s.ignorePlan).pending = s.pending := by
  simp only [State.ignorePlan]
  simp

@[simp] theorem State.emptyForNewPlan_keeps (s : State) :
    (s.emptyForNewPlan).front = s.front ∧
    (s.emptyForNewPlan).plan.number = s.plan.number ∧
    (s.emptyForNewPlan).plan.fields = s.plan.fields ∧
    (s.emptyForNewPlan).gate = s.gate ∧
    (s.emptyForNewPlan).timed = s.timed ∧
    (s.emptyForNewPlan).line = s.line ∧
    (s.emptyForNewPlan).coord.source = s.coord.source ∧
    (s.emptyForNewPlan).coord.roster = s.coord.roster ∧
    (s.emptyForNewPlan).coord.stage = s.coord.stage ∧
    (s.emptyForNewPlan).coord.home = s.coord.home ∧
    (s.emptyForNewPlan).coord.remembered = s.coord.remembered ∧
    (s.emptyForNewPlan).coord.windowEnd = s.coord.windowEnd ∧
    (s.emptyForNewPlan).coord.gatherEnd = s.coord.gatherEnd ∧
    (s.emptyForNewPlan).coord.waitEnd = s.coord.waitEnd ∧
    (s.emptyForNewPlan).coord.deadline = s.coord.deadline ∧
    (s.emptyForNewPlan).coord.expired = s.coord.expired ∧
    (s.emptyForNewPlan).coord.suspension = s.coord.suspension ∧
    (s.emptyForNewPlan).coord.holds = s.coord.holds ∧
    (s.emptyForNewPlan).coord.restarts = s.coord.restarts ∧
    (s.emptyForNewPlan).coord.runHolds = s.coord.runHolds ∧
    (s.emptyForNewPlan).coord.runRestarts = s.coord.runRestarts ∧
    (s.emptyForNewPlan).closure = s.closure ∧
    (s.emptyForNewPlan).power = s.power ∧
    (s.emptyForNewPlan).rstnLow = s.rstnLow ∧
    (s.emptyForNewPlan).freeDraws = s.freeDraws ∧
    (s.emptyForNewPlan).pending = s.pending := by
  simp only [State.emptyForNewPlan]
  simp

@[simp] theorem State.refuseStep_keeps (s : State) :
    (s.refuseStep).front = s.front ∧
    (s.refuseStep).plan.number = s.plan.number ∧
    (s.refuseStep).plan.slots = s.plan.slots ∧
    (s.refuseStep).plan.fields = s.plan.fields ∧
    (s.refuseStep).gate = s.gate ∧
    (s.refuseStep).timed = s.timed ∧
    (s.refuseStep).line = s.line ∧
    (s.refuseStep).coord = s.coord ∧
    (s.refuseStep).closure = s.closure ∧
    (s.refuseStep).power = s.power ∧
    (s.refuseStep).rstnLow = s.rstnLow ∧
    (s.refuseStep).freeDraws = s.freeDraws ∧
    (s.refuseStep).pending = s.pending := by
  simp only [State.refuseStep]
  simp

@[simp] theorem State.overrunWindow_keeps (s : State) :
    (s.overrunWindow).front = s.front ∧
    (s.overrunWindow).plan.number = s.plan.number ∧
    (s.overrunWindow).plan.slots = s.plan.slots ∧
    (s.overrunWindow).plan.fields = s.plan.fields ∧
    (s.overrunWindow).gate = s.gate ∧
    (s.overrunWindow).timed = s.timed ∧
    (s.overrunWindow).line = s.line ∧
    (s.overrunWindow).coord = s.coord ∧
    (s.overrunWindow).closure = s.closure ∧
    (s.overrunWindow).power = s.power ∧
    (s.overrunWindow).rstnLow = s.rstnLow ∧
    (s.overrunWindow).freeDraws = s.freeDraws ∧
    (s.overrunWindow).pending = s.pending := by
  simp only [State.overrunWindow]
  simp

@[simp] theorem State.remember_keeps (s : State) (plan : BitVec 16) (count : BitVec 5) :
    (s.remember plan count).front = s.front ∧
    (s.remember plan count).plan = s.plan ∧
    (s.remember plan count).gate = s.gate ∧
    (s.remember plan count).timed = s.timed ∧
    (s.remember plan count).line = s.line ∧
    (s.remember plan count).coord.run = s.coord.run ∧
    (s.remember plan count).coord.step = s.coord.step ∧
    (s.remember plan count).coord.source = s.coord.source ∧
    (s.remember plan count).coord.verdict = s.coord.verdict ∧
    (s.remember plan count).coord.results = s.coord.results ∧
    (s.remember plan count).coord.gatherEnd = s.coord.gatherEnd ∧
    (s.remember plan count).coord.waitEnd = s.coord.waitEnd ∧
    (s.remember plan count).coord.deadline = s.coord.deadline ∧
    (s.remember plan count).coord.expired = s.coord.expired ∧
    (s.remember plan count).coord.suspension = s.coord.suspension ∧
    (s.remember plan count).coord.holds = s.coord.holds ∧
    (s.remember plan count).coord.restarts = s.coord.restarts ∧
    (s.remember plan count).coord.runHolds = s.coord.runHolds ∧
    (s.remember plan count).coord.runRestarts = s.coord.runRestarts ∧
    (s.remember plan count).closure = s.closure ∧
    (s.remember plan count).power = s.power ∧
    (s.remember plan count).rstnLow = s.rstnLow ∧
    (s.remember plan count).freeDraws = s.freeDraws ∧
    (s.remember plan count).pending = s.pending := by
  simp only [State.remember]
  simp

@[simp] theorem State.energisePress_keeps (s : State) :
    (s.energisePress).front = s.front ∧
    (s.energisePress).plan = s.plan ∧
    (s.energisePress).gate = s.gate ∧
    (s.energisePress).timed = s.timed ∧
    (s.energisePress).line = s.line ∧
    (s.energisePress).coord = s.coord ∧
    (s.energisePress).closure.record = s.closure.record ∧
    (s.energisePress).closure.caln = s.closure.caln ∧
    (s.energisePress).power = s.power ∧
    (s.energisePress).rstnLow = s.rstnLow ∧
    (s.energisePress).freeDraws = s.freeDraws ∧
    (s.energisePress).pending = s.pending := by
  simp only [State.energisePress]
  (repeat' split) <;> simp

@[simp] theorem State.keepRecord_keeps (s : State) (r : ClosureRecord) :
    (s.keepRecord r).front = s.front ∧
    (s.keepRecord r).plan = s.plan ∧
    (s.keepRecord r).gate = s.gate ∧
    (s.keepRecord r).timed = s.timed ∧
    (s.keepRecord r).line = s.line ∧
    (s.keepRecord r).coord = s.coord ∧
    (s.keepRecord r).closure.press = s.closure.press ∧
    (s.keepRecord r).closure.caln = s.closure.caln ∧
    (s.keepRecord r).power = s.power ∧
    (s.keepRecord r).rstnLow = s.rstnLow ∧
    (s.keepRecord r).freeDraws = s.freeDraws ∧
    (s.keepRecord r).pending = s.pending := by
  simp only [State.keepRecord]
  simp

@[simp] theorem State.enterClosed_keeps (s : State) (v : RunVerdict) :
    (s.enterClosed v).front = s.front ∧
    (s.enterClosed v).plan = s.plan ∧
    (s.enterClosed v).gate = s.gate ∧
    (s.enterClosed v).timed = s.timed ∧
    (s.enterClosed v).line = s.line ∧
    (s.enterClosed v).coord.step = s.coord.step ∧
    (s.enterClosed v).coord.source = s.coord.source ∧
    (s.enterClosed v).coord.roster = s.coord.roster ∧
    (s.enterClosed v).coord.stage = s.coord.stage ∧
    (s.enterClosed v).coord.home = s.coord.home ∧
    (s.enterClosed v).coord.remembered = s.coord.remembered ∧
    (s.enterClosed v).coord.windowEnd = s.coord.windowEnd ∧
    (s.enterClosed v).coord.results = s.coord.results ∧
    (s.enterClosed v).coord.gatherEnd = s.coord.gatherEnd ∧
    (s.enterClosed v).coord.waitEnd = s.coord.waitEnd ∧
    (s.enterClosed v).coord.deadline = s.coord.deadline ∧
    (s.enterClosed v).coord.expired = s.coord.expired ∧
    (s.enterClosed v).coord.suspension = s.coord.suspension ∧
    (s.enterClosed v).coord.holds = s.coord.holds ∧
    (s.enterClosed v).coord.restarts = s.coord.restarts ∧
    (s.enterClosed v).coord.runHolds = s.coord.runHolds ∧
    (s.enterClosed v).coord.runRestarts = s.coord.runRestarts ∧
    (s.enterClosed v).closure = s.closure ∧
    (s.enterClosed v).power = s.power ∧
    (s.enterClosed v).rstnLow = s.rstnLow ∧
    (s.enterClosed v).freeDraws = s.freeDraws ∧
    (s.enterClosed v).pending = s.pending := by
  simp only [State.enterClosed]
  simp

@[simp] theorem State.setSource_keeps (s : State) (v : SourceView) :
    (s.setSource v).front = s.front ∧
    (s.setSource v).plan = s.plan ∧
    (s.setSource v).gate = s.gate ∧
    (s.setSource v).timed = s.timed ∧
    (s.setSource v).line = s.line ∧
    (s.setSource v).coord.run = s.coord.run ∧
    (s.setSource v).coord.step = s.coord.step ∧
    (s.setSource v).coord.roster = s.coord.roster ∧
    (s.setSource v).coord.stage = s.coord.stage ∧
    (s.setSource v).coord.home = s.coord.home ∧
    (s.setSource v).coord.remembered = s.coord.remembered ∧
    (s.setSource v).coord.windowEnd = s.coord.windowEnd ∧
    (s.setSource v).coord.verdict = s.coord.verdict ∧
    (s.setSource v).coord.results = s.coord.results ∧
    (s.setSource v).coord.gatherEnd = s.coord.gatherEnd ∧
    (s.setSource v).coord.waitEnd = s.coord.waitEnd ∧
    (s.setSource v).coord.deadline = s.coord.deadline ∧
    (s.setSource v).coord.expired = s.coord.expired ∧
    (s.setSource v).coord.suspension = s.coord.suspension ∧
    (s.setSource v).coord.holds = s.coord.holds ∧
    (s.setSource v).coord.restarts = s.coord.restarts ∧
    (s.setSource v).coord.runHolds = s.coord.runHolds ∧
    (s.setSource v).coord.runRestarts = s.coord.runRestarts ∧
    (s.setSource v).closure = s.closure ∧
    (s.setSource v).power = s.power ∧
    (s.setSource v).rstnLow = s.rstnLow ∧
    (s.setSource v).freeDraws = s.freeDraws ∧
    (s.setSource v).pending = s.pending := by
  simp only [State.setSource]
  simp

@[simp] theorem State.becomeEnrolled_keeps (s : State) (source : Position) :
    (s.becomeEnrolled source).front = s.front ∧
    (s.becomeEnrolled source).plan = s.plan ∧
    (s.becomeEnrolled source).gate = s.gate ∧
    (s.becomeEnrolled source).timed = s.timed ∧
    (s.becomeEnrolled source).line = s.line ∧
    (s.becomeEnrolled source).coord.step = s.coord.step ∧
    (s.becomeEnrolled source).coord.source = s.coord.source ∧
    (s.becomeEnrolled source).coord.roster = s.coord.roster ∧
    (s.becomeEnrolled source).coord.home = s.coord.home ∧
    (s.becomeEnrolled source).coord.remembered = s.coord.remembered ∧
    (s.becomeEnrolled source).coord.windowEnd = s.coord.windowEnd ∧
    (s.becomeEnrolled source).coord.verdict = s.coord.verdict ∧
    (s.becomeEnrolled source).coord.results = s.coord.results ∧
    (s.becomeEnrolled source).coord.gatherEnd = s.coord.gatherEnd ∧
    (s.becomeEnrolled source).coord.waitEnd = s.coord.waitEnd ∧
    (s.becomeEnrolled source).coord.deadline = s.coord.deadline ∧
    (s.becomeEnrolled source).coord.expired = s.coord.expired ∧
    (s.becomeEnrolled source).coord.suspension = s.coord.suspension ∧
    (s.becomeEnrolled source).coord.holds = s.coord.holds ∧
    (s.becomeEnrolled source).coord.restarts = s.coord.restarts ∧
    (s.becomeEnrolled source).coord.runHolds = s.coord.runHolds ∧
    (s.becomeEnrolled source).coord.runRestarts = s.coord.runRestarts ∧
    (s.becomeEnrolled source).closure = s.closure ∧
    (s.becomeEnrolled source).power = s.power ∧
    (s.becomeEnrolled source).rstnLow = s.rstnLow ∧
    (s.becomeEnrolled source).freeDraws = s.freeDraws ∧
    (s.becomeEnrolled source).pending = s.pending := by
  simp only [State.becomeEnrolled]
  (repeat' split) <;> simp

@[simp] theorem State.writeResult_keeps (s : State) (k : StepIx) (v : Verdict) (x : ResultValues) :
    (s.writeResult k v x).front = s.front ∧
    (s.writeResult k v x).plan = s.plan ∧
    (s.writeResult k v x).gate = s.gate ∧
    (s.writeResult k v x).timed = s.timed ∧
    (s.writeResult k v x).line.strap = s.line.strap ∧
    (s.writeResult k v x).line.link = s.line.link ∧
    (s.writeResult k v x).line.phase = s.line.phase ∧
    (s.writeResult k v x).line.endSlot = s.line.endSlot ∧
    (s.writeResult k v x).line.gapEnd = s.line.gapEnd ∧
    (s.writeResult k v x).line.recessiveSince = s.line.recessiveSince ∧
    (s.writeResult k v x).line.receive = s.line.receive ∧
    (s.writeResult k v x).line.transmit = s.line.transmit ∧
    (s.writeResult k v x).line.role = s.line.role ∧
    (s.writeResult k v x).line.abortDriven = s.line.abortDriven ∧
    (s.writeResult k v x).coord.run = s.coord.run ∧
    (s.writeResult k v x).coord.step = s.coord.step ∧
    (s.writeResult k v x).coord.source = s.coord.source ∧
    (s.writeResult k v x).coord.roster = s.coord.roster ∧
    (s.writeResult k v x).coord.stage = s.coord.stage ∧
    (s.writeResult k v x).coord.home = s.coord.home ∧
    (s.writeResult k v x).coord.remembered = s.coord.remembered ∧
    (s.writeResult k v x).coord.windowEnd = s.coord.windowEnd ∧
    (s.writeResult k v x).coord.verdict = s.coord.verdict ∧
    (s.writeResult k v x).coord.gatherEnd = s.coord.gatherEnd ∧
    (s.writeResult k v x).coord.waitEnd = s.coord.waitEnd ∧
    (s.writeResult k v x).coord.deadline = s.coord.deadline ∧
    (s.writeResult k v x).coord.expired = s.coord.expired ∧
    (s.writeResult k v x).coord.suspension = s.coord.suspension ∧
    (s.writeResult k v x).coord.holds = s.coord.holds ∧
    (s.writeResult k v x).coord.restarts = s.coord.restarts ∧
    (s.writeResult k v x).coord.runHolds = s.coord.runHolds ∧
    (s.writeResult k v x).coord.runRestarts = s.coord.runRestarts ∧
    (s.writeResult k v x).closure = s.closure ∧
    (s.writeResult k v x).power = s.power ∧
    (s.writeResult k v x).rstnLow = s.rstnLow ∧
    (s.writeResult k v x).freeDraws = s.freeDraws ∧
    (s.writeResult k v x).pending = s.pending := by
  simp only [State.writeResult]
  simp

@[simp] theorem State.toHome_keeps (s : State) :
    (s.toHome).front = s.front ∧
    (s.toHome).plan = s.plan ∧
    (s.toHome).gate = s.gate ∧
    (s.toHome).timed = s.timed ∧
    (s.toHome).line = s.line ∧
    (s.toHome).coord.source = s.coord.source ∧
    (s.toHome).coord.roster = s.coord.roster ∧
    (s.toHome).coord.stage = s.coord.stage ∧
    (s.toHome).coord.home = s.coord.home ∧
    (s.toHome).coord.remembered = s.coord.remembered ∧
    (s.toHome).coord.windowEnd = s.coord.windowEnd ∧
    (s.toHome).coord.verdict = s.coord.verdict ∧
    (s.toHome).coord.results = s.coord.results ∧
    (s.toHome).coord.gatherEnd = s.coord.gatherEnd ∧
    (s.toHome).coord.waitEnd = s.coord.waitEnd ∧
    (s.toHome).coord.deadline = s.coord.deadline ∧
    (s.toHome).coord.expired = s.coord.expired ∧
    (s.toHome).coord.suspension = s.coord.suspension ∧
    (s.toHome).coord.holds = s.coord.holds ∧
    (s.toHome).coord.restarts = s.coord.restarts ∧
    (s.toHome).coord.runHolds = s.coord.runHolds ∧
    (s.toHome).coord.runRestarts = s.coord.runRestarts ∧
    (s.toHome).closure = s.closure ∧
    (s.toHome).power = s.power ∧
    (s.toHome).rstnLow = s.rstnLow ∧
    (s.toHome).freeDraws = s.freeDraws ∧
    (s.toHome).pending = s.pending := by
  simp only [State.toHome]
  (repeat' split) <;> simp

@[simp] theorem State.endEnrollment_keeps (s : State) :
    (s.endEnrollment).front = s.front ∧
    (s.endEnrollment).plan = s.plan ∧
    (s.endEnrollment).gate = s.gate ∧
    (s.endEnrollment).timed = s.timed ∧
    (s.endEnrollment).line.strap = s.line.strap ∧
    (s.endEnrollment).line.link = s.line.link ∧
    (s.endEnrollment).line.phase = s.line.phase ∧
    (s.endEnrollment).line.endSlot = s.line.endSlot ∧
    (s.endEnrollment).line.gapEnd = s.line.gapEnd ∧
    (s.endEnrollment).line.recessiveSince = s.line.recessiveSince ∧
    (s.endEnrollment).line.receive = s.line.receive ∧
    (s.endEnrollment).line.transmit = s.line.transmit ∧
    (s.endEnrollment).line.role = s.line.role ∧
    (s.endEnrollment).line.abortDriven = s.line.abortDriven ∧
    (s.endEnrollment).coord.run = s.coord.run ∧
    (s.endEnrollment).coord.step = s.coord.step ∧
    (s.endEnrollment).coord.source = s.coord.source ∧
    (s.endEnrollment).coord.verdict = s.coord.verdict ∧
    (s.endEnrollment).coord.results = s.coord.results ∧
    (s.endEnrollment).coord.gatherEnd = s.coord.gatherEnd ∧
    (s.endEnrollment).coord.waitEnd = s.coord.waitEnd ∧
    (s.endEnrollment).coord.deadline = s.coord.deadline ∧
    (s.endEnrollment).coord.expired = s.coord.expired ∧
    (s.endEnrollment).coord.suspension = s.coord.suspension ∧
    (s.endEnrollment).coord.holds = s.coord.holds ∧
    (s.endEnrollment).coord.restarts = s.coord.restarts ∧
    (s.endEnrollment).coord.runHolds = s.coord.runHolds ∧
    (s.endEnrollment).coord.runRestarts = s.coord.runRestarts ∧
    (s.endEnrollment).closure = s.closure ∧
    (s.endEnrollment).power = s.power ∧
    (s.endEnrollment).rstnLow = s.rstnLow ∧
    (s.endEnrollment).freeDraws = s.freeDraws ∧
    (s.endEnrollment).pending = s.pending := by
  simp only [State.endEnrollment]
  simp

@[simp] theorem State.gateToIdle_keeps (s : State) :
    (s.gateToIdle).front.timeBase = s.front.timeBase ∧
    (s.gateToIdle).front.mtp = s.front.mtp ∧
    (s.gateToIdle).front.planSetting = s.front.planSetting ∧
    (s.gateToIdle).front.input = s.front.input ∧
    (s.gateToIdle).front.candidate = s.front.candidate ∧
    (s.gateToIdle).front.releaseTime = s.front.releaseTime ∧
    (s.gateToIdle).front.lastPulse = s.front.lastPulse ∧
    (s.gateToIdle).front.lastPeriod = s.front.lastPeriod ∧
    (s.gateToIdle).front.nextEdge = s.front.nextEdge ∧
    (s.gateToIdle).front.refSeen = s.front.refSeen ∧
    (s.gateToIdle).front.loop = s.front.loop ∧
    (s.gateToIdle).plan = s.plan ∧
    (s.gateToIdle).timed = s.timed ∧
    (s.gateToIdle).line = s.line ∧
    (s.gateToIdle).coord = s.coord ∧
    (s.gateToIdle).closure = s.closure ∧
    (s.gateToIdle).power = s.power ∧
    (s.gateToIdle).rstnLow = s.rstnLow ∧
    (s.gateToIdle).freeDraws = s.freeDraws ∧
    (s.gateToIdle).pending = s.pending := by
  simp only [State.gateToIdle]
  simp

@[simp] theorem State.enterParked_keeps (s : State) :
    (s.enterParked).front = s.front ∧
    (s.enterParked).plan = s.plan ∧
    (s.enterParked).gate = s.gate ∧
    (s.enterParked).timed = s.timed ∧
    (s.enterParked).line = s.line ∧
    (s.enterParked).coord = s.coord ∧
    (s.enterParked).closure.record = s.closure.record ∧
    (s.enterParked).closure.press = s.closure.press ∧
    (s.enterParked).power.clamp = s.power.clamp ∧
    (s.enterParked).power.selfTest = s.power.selfTest ∧
    (s.enterParked).rstnLow = s.rstnLow ∧
    (s.enterParked).freeDraws = s.freeDraws ∧
    (s.enterParked).pending = s.pending := by
  simp only [State.enterParked]
  simp

@[simp] theorem State.requeueDone_keeps (s : State) :
    (s.requeueDone).front = s.front ∧
    (s.requeueDone).plan = s.plan ∧
    (s.requeueDone).gate = s.gate ∧
    (s.requeueDone).timed = s.timed ∧
    (s.requeueDone).line.strap = s.line.strap ∧
    (s.requeueDone).line.link = s.line.link ∧
    (s.requeueDone).line.phase = s.line.phase ∧
    (s.requeueDone).line.endSlot = s.line.endSlot ∧
    (s.requeueDone).line.gapEnd = s.line.gapEnd ∧
    (s.requeueDone).line.recessiveSince = s.line.recessiveSince ∧
    (s.requeueDone).line.receive = s.line.receive ∧
    (s.requeueDone).line.transmit = s.line.transmit ∧
    (s.requeueDone).line.role = s.line.role ∧
    (s.requeueDone).line.abortDriven = s.line.abortDriven ∧
    (s.requeueDone).coord = s.coord ∧
    (s.requeueDone).closure = s.closure ∧
    (s.requeueDone).power = s.power ∧
    (s.requeueDone).rstnLow = s.rstnLow ∧
    (s.requeueDone).freeDraws = s.freeDraws ∧
    (s.requeueDone).pending = s.pending := by
  simp only [State.requeueDone]
  (repeat' split) <;> simp

@[simp] theorem State.settleLapse_keeps (s : State) (d : Option Nat) :
    (s.settleLapse d).front = s.front ∧
    (s.settleLapse d).plan = s.plan ∧
    (s.settleLapse d).gate = s.gate ∧
    (s.settleLapse d).timed = s.timed ∧
    (s.settleLapse d).line.strap = s.line.strap ∧
    (s.settleLapse d).line.link = s.line.link ∧
    (s.settleLapse d).line.phase = s.line.phase ∧
    (s.settleLapse d).line.endSlot = s.line.endSlot ∧
    (s.settleLapse d).line.gapEnd = s.line.gapEnd ∧
    (s.settleLapse d).line.recessiveSince = s.line.recessiveSince ∧
    (s.settleLapse d).line.receive = s.line.receive ∧
    (s.settleLapse d).line.transmit = s.line.transmit ∧
    (s.settleLapse d).line.role = s.line.role ∧
    (s.settleLapse d).line.abortDriven = s.line.abortDriven ∧
    (s.settleLapse d).coord = s.coord ∧
    (s.settleLapse d).closure = s.closure ∧
    (s.settleLapse d).power = s.power ∧
    (s.settleLapse d).rstnLow = s.rstnLow ∧
    (s.settleLapse d).freeDraws = s.freeDraws ∧
    (s.settleLapse d).pending = s.pending := by
  simp only [State.settleLapse]
  (repeat' split) <;> simp

@[simp] theorem State.enterGathering_keeps (s : State) (k : StepIx) :
    (s.enterGathering k).front = s.front ∧
    (s.enterGathering k).plan = s.plan ∧
    (s.enterGathering k).gate = s.gate ∧
    (s.enterGathering k).timed = s.timed ∧
    (s.enterGathering k).line.strap = s.line.strap ∧
    (s.enterGathering k).line.link = s.line.link ∧
    (s.enterGathering k).line.phase = s.line.phase ∧
    (s.enterGathering k).line.endSlot = s.line.endSlot ∧
    (s.enterGathering k).line.gapEnd = s.line.gapEnd ∧
    (s.enterGathering k).line.recessiveSince = s.line.recessiveSince ∧
    (s.enterGathering k).line.receive = s.line.receive ∧
    (s.enterGathering k).line.transmit = s.line.transmit ∧
    (s.enterGathering k).line.role = s.line.role ∧
    (s.enterGathering k).line.abortDriven = s.line.abortDriven ∧
    (s.enterGathering k).coord.source = s.coord.source ∧
    (s.enterGathering k).coord.stage = s.coord.stage ∧
    (s.enterGathering k).coord.home = s.coord.home ∧
    (s.enterGathering k).coord.remembered = s.coord.remembered ∧
    (s.enterGathering k).coord.windowEnd = s.coord.windowEnd ∧
    (s.enterGathering k).coord.verdict = s.coord.verdict ∧
    (s.enterGathering k).coord.results = s.coord.results ∧
    (s.enterGathering k).coord.waitEnd = s.coord.waitEnd ∧
    (s.enterGathering k).coord.runHolds = s.coord.runHolds ∧
    (s.enterGathering k).coord.runRestarts = s.coord.runRestarts ∧
    (s.enterGathering k).closure = s.closure ∧
    (s.enterGathering k).power = s.power ∧
    (s.enterGathering k).rstnLow = s.rstnLow ∧
    (s.enterGathering k).freeDraws = s.freeDraws ∧
    (s.enterGathering k).pending = s.pending := by
  simp only [State.enterGathering]
  simp

@[simp] theorem State.endRun_keeps (s : State) :
    (s.endRun).front.timeBase = s.front.timeBase ∧
    (s.endRun).front.mtp = s.front.mtp ∧
    (s.endRun).front.planSetting = s.front.planSetting ∧
    (s.endRun).front.input = s.front.input ∧
    (s.endRun).front.candidate = s.front.candidate ∧
    (s.endRun).front.releaseTime = s.front.releaseTime ∧
    (s.endRun).front.lastPulse = s.front.lastPulse ∧
    (s.endRun).front.lastPeriod = s.front.lastPeriod ∧
    (s.endRun).front.counter = s.front.counter ∧
    (s.endRun).front.refSeen = s.front.refSeen ∧
    (s.endRun).front.loop = s.front.loop ∧
    (s.endRun).plan = s.plan ∧
    (s.endRun).gate = s.gate ∧
    (s.endRun).timed = s.timed ∧
    (s.endRun).line.strap = s.line.strap ∧
    (s.endRun).line.link = s.line.link ∧
    (s.endRun).line.phase = s.line.phase ∧
    (s.endRun).line.endSlot = s.line.endSlot ∧
    (s.endRun).line.gapEnd = s.line.gapEnd ∧
    (s.endRun).line.recessiveSince = s.line.recessiveSince ∧
    (s.endRun).line.receive = s.line.receive ∧
    (s.endRun).line.transmit = s.line.transmit ∧
    (s.endRun).line.role = s.line.role ∧
    (s.endRun).line.abortDriven = s.line.abortDriven ∧
    (s.endRun).coord.step = s.coord.step ∧
    (s.endRun).coord.source = s.coord.source ∧
    (s.endRun).coord.roster = s.coord.roster ∧
    (s.endRun).coord.stage = s.coord.stage ∧
    (s.endRun).coord.home = s.coord.home ∧
    (s.endRun).coord.remembered = s.coord.remembered ∧
    (s.endRun).coord.windowEnd = s.coord.windowEnd ∧
    (s.endRun).coord.results = s.coord.results ∧
    (s.endRun).coord.expired = s.coord.expired ∧
    (s.endRun).coord.suspension = s.coord.suspension ∧
    (s.endRun).coord.holds = s.coord.holds ∧
    (s.endRun).coord.restarts = s.coord.restarts ∧
    (s.endRun).coord.runHolds = s.coord.runHolds ∧
    (s.endRun).coord.runRestarts = s.coord.runRestarts ∧
    (s.endRun).closure = s.closure ∧
    (s.endRun).power = s.power ∧
    (s.endRun).rstnLow = s.rstnLow ∧
    (s.endRun).freeDraws = s.freeDraws ∧
    (s.endRun).pending = s.pending := by
  simp only [State.endRun]
  simp

@[simp] theorem State.suspendStep_keeps (s : State) (k : StepIx) :
    (s.suspendStep k).front.timeBase = s.front.timeBase ∧
    (s.suspendStep k).front.mtp = s.front.mtp ∧
    (s.suspendStep k).front.planSetting = s.front.planSetting ∧
    (s.suspendStep k).front.input = s.front.input ∧
    (s.suspendStep k).front.candidate = s.front.candidate ∧
    (s.suspendStep k).front.releaseTime = s.front.releaseTime ∧
    (s.suspendStep k).front.lastPulse = s.front.lastPulse ∧
    (s.suspendStep k).front.lastPeriod = s.front.lastPeriod ∧
    (s.suspendStep k).front.refSeen = s.front.refSeen ∧
    (s.suspendStep k).front.loop = s.front.loop ∧
    (s.suspendStep k).plan = s.plan ∧
    (s.suspendStep k).line.strap = s.line.strap ∧
    (s.suspendStep k).line.link = s.line.link ∧
    (s.suspendStep k).line.phase = s.line.phase ∧
    (s.suspendStep k).line.endSlot = s.line.endSlot ∧
    (s.suspendStep k).line.gapEnd = s.line.gapEnd ∧
    (s.suspendStep k).line.recessiveSince = s.line.recessiveSince ∧
    (s.suspendStep k).line.receive = s.line.receive ∧
    (s.suspendStep k).line.transmit = s.line.transmit ∧
    (s.suspendStep k).line.role = s.line.role ∧
    (s.suspendStep k).line.abortDriven = s.line.abortDriven ∧
    (s.suspendStep k).coord.step = s.coord.step ∧
    (s.suspendStep k).coord.source = s.coord.source ∧
    (s.suspendStep k).coord.roster = s.coord.roster ∧
    (s.suspendStep k).coord.stage = s.coord.stage ∧
    (s.suspendStep k).coord.home = s.coord.home ∧
    (s.suspendStep k).coord.remembered = s.coord.remembered ∧
    (s.suspendStep k).coord.windowEnd = s.coord.windowEnd ∧
    (s.suspendStep k).coord.verdict = s.coord.verdict ∧
    (s.suspendStep k).coord.gatherEnd = s.coord.gatherEnd ∧
    (s.suspendStep k).coord.deadline = s.coord.deadline ∧
    (s.suspendStep k).coord.expired = s.coord.expired ∧
    (s.suspendStep k).coord.holds = s.coord.holds ∧
    (s.suspendStep k).coord.restarts = s.coord.restarts ∧
    (s.suspendStep k).coord.runHolds = s.coord.runHolds ∧
    (s.suspendStep k).coord.runRestarts = s.coord.runRestarts ∧
    (s.suspendStep k).closure = s.closure ∧
    (s.suspendStep k).power = s.power ∧
    (s.suspendStep k).rstnLow = s.rstnLow ∧
    (s.suspendStep k).freeDraws = s.freeDraws ∧
    (s.suspendStep k).pending = s.pending := by
  simp only [State.suspendStep]
  simp

@[simp] theorem State.voidResult_keeps (s : State) (k : StepIx) :
    (s.voidResult k).front = s.front ∧
    (s.voidResult k).plan = s.plan ∧
    (s.voidResult k).gate = s.gate ∧
    (s.voidResult k).timed = s.timed ∧
    (s.voidResult k).line.strap = s.line.strap ∧
    (s.voidResult k).line.link = s.line.link ∧
    (s.voidResult k).line.phase = s.line.phase ∧
    (s.voidResult k).line.endSlot = s.line.endSlot ∧
    (s.voidResult k).line.gapEnd = s.line.gapEnd ∧
    (s.voidResult k).line.recessiveSince = s.line.recessiveSince ∧
    (s.voidResult k).line.receive = s.line.receive ∧
    (s.voidResult k).line.transmit = s.line.transmit ∧
    (s.voidResult k).line.role = s.line.role ∧
    (s.voidResult k).line.abortDriven = s.line.abortDriven ∧
    (s.voidResult k).coord.run = s.coord.run ∧
    (s.voidResult k).coord.step = s.coord.step ∧
    (s.voidResult k).coord.source = s.coord.source ∧
    (s.voidResult k).coord.roster = s.coord.roster ∧
    (s.voidResult k).coord.stage = s.coord.stage ∧
    (s.voidResult k).coord.home = s.coord.home ∧
    (s.voidResult k).coord.remembered = s.coord.remembered ∧
    (s.voidResult k).coord.windowEnd = s.coord.windowEnd ∧
    (s.voidResult k).coord.verdict = s.coord.verdict ∧
    (s.voidResult k).coord.gatherEnd = s.coord.gatherEnd ∧
    (s.voidResult k).coord.waitEnd = s.coord.waitEnd ∧
    (s.voidResult k).coord.deadline = s.coord.deadline ∧
    (s.voidResult k).coord.expired = s.coord.expired ∧
    (s.voidResult k).coord.suspension = s.coord.suspension ∧
    (s.voidResult k).coord.holds = s.coord.holds ∧
    (s.voidResult k).coord.restarts = s.coord.restarts ∧
    (s.voidResult k).coord.runHolds = s.coord.runHolds ∧
    (s.voidResult k).coord.runRestarts = s.coord.runRestarts ∧
    (s.voidResult k).closure = s.closure ∧
    (s.voidResult k).power = s.power ∧
    (s.voidResult k).rstnLow = s.rstnLow ∧
    (s.voidResult k).freeDraws = s.freeDraws ∧
    (s.voidResult k).pending = s.pending := by
  simp only [State.voidResult]
  (repeat' split) <;> simp

@[simp] theorem State.askHold_keeps (s : State) (k : StepIx) :
    (s.askHold k).front = s.front ∧
    (s.askHold k).plan = s.plan ∧
    (s.askHold k).gate.state = s.gate.state ∧
    (s.askHold k).gate.step = s.gate.step ∧
    (s.askHold k).gate.settings = s.gate.settings ∧
    (s.askHold k).gate.n = s.gate.n ∧
    (s.askHold k).gate.error = s.gate.error ∧
    (s.askHold k).timed = s.timed ∧
    (s.askHold k).line.strap = s.line.strap ∧
    (s.askHold k).line.link = s.line.link ∧
    (s.askHold k).line.phase = s.line.phase ∧
    (s.askHold k).line.endSlot = s.line.endSlot ∧
    (s.askHold k).line.gapEnd = s.line.gapEnd ∧
    (s.askHold k).line.recessiveSince = s.line.recessiveSince ∧
    (s.askHold k).line.receive = s.line.receive ∧
    (s.askHold k).line.transmit = s.line.transmit ∧
    (s.askHold k).line.role = s.line.role ∧
    (s.askHold k).line.abortDriven = s.line.abortDriven ∧
    (s.askHold k).coord = s.coord ∧
    (s.askHold k).closure = s.closure ∧
    (s.askHold k).power = s.power ∧
    (s.askHold k).rstnLow = s.rstnLow ∧
    (s.askHold k).freeDraws = s.freeDraws ∧
    (s.askHold k).pending = s.pending := by
  simp only [State.askHold]
  simp

@[simp] theorem State.handRestarted_keeps (s : State) (before : FrontEnd) :
    (s.handRestarted before).front = s.front ∧
    (s.handRestarted before).plan = s.plan ∧
    (s.handRestarted before).gate = s.gate ∧
    (s.handRestarted before).timed = s.timed ∧
    (s.handRestarted before).line = s.line ∧
    (s.handRestarted before).coord = s.coord ∧
    (s.handRestarted before).closure = s.closure ∧
    (s.handRestarted before).power.state = s.power.state ∧
    (s.handRestarted before).power.clamp = s.power.clamp ∧
    (s.handRestarted before).power.parkedSince = s.power.parkedSince ∧
    (s.handRestarted before).power.heldClosing = s.power.heldClosing ∧
    (s.handRestarted before).power.wakeStart = s.power.wakeStart ∧
    (s.handRestarted before).power.selfTest = s.power.selfTest ∧
    (s.handRestarted before).power.hdpw = s.power.hdpw ∧
    (s.handRestarted before).rstnLow = s.rstnLow ∧
    (s.handRestarted before).freeDraws = s.freeDraws ∧
    (s.handRestarted before).pending = s.pending := by
  simp only [State.handRestarted]
  (repeat' split) <;> simp

@[simp] theorem State.expireGather_keeps (s : State) :
    (s.expireGather).front = s.front ∧
    (s.expireGather).plan = s.plan ∧
    (s.expireGather).gate = s.gate ∧
    (s.expireGather).timed = s.timed ∧
    (s.expireGather).line.strap = s.line.strap ∧
    (s.expireGather).line.link = s.line.link ∧
    (s.expireGather).line.phase = s.line.phase ∧
    (s.expireGather).line.endSlot = s.line.endSlot ∧
    (s.expireGather).line.gapEnd = s.line.gapEnd ∧
    (s.expireGather).line.recessiveSince = s.line.recessiveSince ∧
    (s.expireGather).line.receive = s.line.receive ∧
    (s.expireGather).line.transmit = s.line.transmit ∧
    (s.expireGather).line.role = s.line.role ∧
    (s.expireGather).line.abortDriven = s.line.abortDriven ∧
    (s.expireGather).coord.run = s.coord.run ∧
    (s.expireGather).coord.step = s.coord.step ∧
    (s.expireGather).coord.source = s.coord.source ∧
    (s.expireGather).coord.roster = s.coord.roster ∧
    (s.expireGather).coord.stage = s.coord.stage ∧
    (s.expireGather).coord.home = s.coord.home ∧
    (s.expireGather).coord.remembered = s.coord.remembered ∧
    (s.expireGather).coord.windowEnd = s.coord.windowEnd ∧
    (s.expireGather).coord.verdict = s.coord.verdict ∧
    (s.expireGather).coord.results = s.coord.results ∧
    (s.expireGather).coord.waitEnd = s.coord.waitEnd ∧
    (s.expireGather).coord.deadline = s.coord.deadline ∧
    (s.expireGather).coord.expired = s.coord.expired ∧
    (s.expireGather).coord.suspension = s.coord.suspension ∧
    (s.expireGather).coord.holds = s.coord.holds ∧
    (s.expireGather).coord.restarts = s.coord.restarts ∧
    (s.expireGather).coord.runHolds = s.coord.runHolds ∧
    (s.expireGather).coord.runRestarts = s.coord.runRestarts ∧
    (s.expireGather).closure = s.closure ∧
    (s.expireGather).power = s.power ∧
    (s.expireGather).rstnLow = s.rstnLow ∧
    (s.expireGather).freeDraws = s.freeDraws ∧
    (s.expireGather).pending = s.pending := by
  simp only [State.expireGather]
  (repeat' split) <;> simp

@[simp] theorem State.expireDeadline_keeps (s : State) :
    (s.expireDeadline).front = s.front ∧
    (s.expireDeadline).plan = s.plan ∧
    (s.expireDeadline).gate = s.gate ∧
    (s.expireDeadline).timed = s.timed ∧
    (s.expireDeadline).line.strap = s.line.strap ∧
    (s.expireDeadline).line.link = s.line.link ∧
    (s.expireDeadline).line.phase = s.line.phase ∧
    (s.expireDeadline).line.endSlot = s.line.endSlot ∧
    (s.expireDeadline).line.gapEnd = s.line.gapEnd ∧
    (s.expireDeadline).line.recessiveSince = s.line.recessiveSince ∧
    (s.expireDeadline).line.receive = s.line.receive ∧
    (s.expireDeadline).line.transmit = s.line.transmit ∧
    (s.expireDeadline).line.role = s.line.role ∧
    (s.expireDeadline).line.abortDriven = s.line.abortDriven ∧
    (s.expireDeadline).coord.run = s.coord.run ∧
    (s.expireDeadline).coord.step = s.coord.step ∧
    (s.expireDeadline).coord.source = s.coord.source ∧
    (s.expireDeadline).coord.roster = s.coord.roster ∧
    (s.expireDeadline).coord.stage = s.coord.stage ∧
    (s.expireDeadline).coord.home = s.coord.home ∧
    (s.expireDeadline).coord.remembered = s.coord.remembered ∧
    (s.expireDeadline).coord.windowEnd = s.coord.windowEnd ∧
    (s.expireDeadline).coord.verdict = s.coord.verdict ∧
    (s.expireDeadline).coord.results = s.coord.results ∧
    (s.expireDeadline).coord.gatherEnd = s.coord.gatherEnd ∧
    (s.expireDeadline).coord.waitEnd = s.coord.waitEnd ∧
    (s.expireDeadline).coord.deadline = s.coord.deadline ∧
    (s.expireDeadline).coord.suspension = s.coord.suspension ∧
    (s.expireDeadline).coord.holds = s.coord.holds ∧
    (s.expireDeadline).coord.restarts = s.coord.restarts ∧
    (s.expireDeadline).coord.runHolds = s.coord.runHolds ∧
    (s.expireDeadline).coord.runRestarts = s.coord.runRestarts ∧
    (s.expireDeadline).closure = s.closure ∧
    (s.expireDeadline).power = s.power ∧
    (s.expireDeadline).rstnLow = s.rstnLow ∧
    (s.expireDeadline).freeDraws = s.freeDraws ∧
    (s.expireDeadline).pending = s.pending := by
  simp only [State.expireDeadline]
  (repeat' split) <;> simp

@[simp] theorem State.endParkedDwell_keeps (s : State) :
    (s.endParkedDwell).front.timeBase = s.front.timeBase ∧
    (s.endParkedDwell).front.mtp = s.front.mtp ∧
    (s.endParkedDwell).front.planSetting = s.front.planSetting ∧
    (s.endParkedDwell).front.input = s.front.input ∧
    (s.endParkedDwell).front.candidate = s.front.candidate ∧
    (s.endParkedDwell).front.releaseTime = s.front.releaseTime ∧
    (s.endParkedDwell).front.lastPulse = s.front.lastPulse ∧
    (s.endParkedDwell).front.lastPeriod = s.front.lastPeriod ∧
    (s.endParkedDwell).front.counter = s.front.counter ∧
    (s.endParkedDwell).front.nextEdge = s.front.nextEdge ∧
    (s.endParkedDwell).front.loop = s.front.loop ∧
    (s.endParkedDwell).plan = s.plan ∧
    (s.endParkedDwell).gate = s.gate ∧
    (s.endParkedDwell).timed = s.timed ∧
    (s.endParkedDwell).line = s.line ∧
    (s.endParkedDwell).coord = s.coord ∧
    (s.endParkedDwell).closure = s.closure ∧
    (s.endParkedDwell).power.clamp = s.power.clamp ∧
    (s.endParkedDwell).power.selfTest = s.power.selfTest ∧
    (s.endParkedDwell).rstnLow = s.rstnLow ∧
    (s.endParkedDwell).freeDraws = s.freeDraws ∧
    (s.endParkedDwell).pending = s.pending := by
  simp only [State.endParkedDwell]
  (repeat' split) <;> simp

@[simp] theorem State.startAttempt_keeps (s : State) (arbRead : BitVec 9) (restMatches : Bool) (groups : Nat) :
    (s.startAttempt arbRead restMatches groups).front = s.front ∧
    (s.startAttempt arbRead restMatches groups).plan = s.plan ∧
    (s.startAttempt arbRead restMatches groups).gate = s.gate ∧
    (s.startAttempt arbRead restMatches groups).timed = s.timed ∧
    (s.startAttempt arbRead restMatches groups).coord = s.coord ∧
    (s.startAttempt arbRead restMatches groups).closure = s.closure ∧
    (s.startAttempt arbRead restMatches groups).power = s.power ∧
    (s.startAttempt arbRead restMatches groups).rstnLow = s.rstnLow ∧
    (s.startAttempt arbRead restMatches groups).freeDraws = s.freeDraws ∧
    (s.startAttempt arbRead restMatches groups).pending = s.pending := by
  simp only [State.startAttempt]
  (repeat' split) <;> simp

@[simp] theorem State.closeParked_keeps (s : State) :
    (s.closeParked).front.timeBase = s.front.timeBase ∧
    (s.closeParked).front.mtp = s.front.mtp ∧
    (s.closeParked).front.planSetting = s.front.planSetting ∧
    (s.closeParked).front.input = s.front.input ∧
    (s.closeParked).front.candidate = s.front.candidate ∧
    (s.closeParked).front.releaseTime = s.front.releaseTime ∧
    (s.closeParked).front.lastPulse = s.front.lastPulse ∧
    (s.closeParked).front.lastPeriod = s.front.lastPeriod ∧
    (s.closeParked).front.counter = s.front.counter ∧
    (s.closeParked).front.nextEdge = s.front.nextEdge ∧
    (s.closeParked).front.loop = s.front.loop ∧
    (s.closeParked).plan = s.plan ∧
    (s.closeParked).gate = s.gate ∧
    (s.closeParked).timed = s.timed ∧
    (s.closeParked).line = s.line ∧
    (s.closeParked).coord = s.coord ∧
    (s.closeParked).closure = s.closure ∧
    (s.closeParked).power.clamp = s.power.clamp ∧
    (s.closeParked).power.selfTest = s.power.selfTest ∧
    (s.closeParked).rstnLow = s.rstnLow ∧
    (s.closeParked).freeDraws = s.freeDraws ∧
    (s.closeParked).pending = s.pending := by
  simp only [State.closeParked]
  (repeat' split) <;> simp

@[simp] theorem State.loadedAtOpening_keeps (s : State) :
    (s.loadedAtOpening).front = s.front ∧
    (s.loadedAtOpening).plan = s.plan ∧
    (s.loadedAtOpening).gate = s.gate ∧
    (s.loadedAtOpening).timed = s.timed ∧
    (s.loadedAtOpening).line = s.line ∧
    (s.loadedAtOpening).coord.source = s.coord.source ∧
    (s.loadedAtOpening).coord.roster = s.coord.roster ∧
    (s.loadedAtOpening).coord.stage = s.coord.stage ∧
    (s.loadedAtOpening).coord.home = s.coord.home ∧
    (s.loadedAtOpening).coord.remembered = s.coord.remembered ∧
    (s.loadedAtOpening).coord.windowEnd = s.coord.windowEnd ∧
    (s.loadedAtOpening).coord.results = s.coord.results ∧
    (s.loadedAtOpening).coord.gatherEnd = s.coord.gatherEnd ∧
    (s.loadedAtOpening).coord.waitEnd = s.coord.waitEnd ∧
    (s.loadedAtOpening).coord.deadline = s.coord.deadline ∧
    (s.loadedAtOpening).coord.expired = s.coord.expired ∧
    (s.loadedAtOpening).coord.suspension = s.coord.suspension ∧
    (s.loadedAtOpening).coord.holds = s.coord.holds ∧
    (s.loadedAtOpening).coord.restarts = s.coord.restarts ∧
    (s.loadedAtOpening).coord.runHolds = s.coord.runHolds ∧
    (s.loadedAtOpening).coord.runRestarts = s.coord.runRestarts ∧
    (s.loadedAtOpening).closure = s.closure ∧
    (s.loadedAtOpening).power = s.power ∧
    (s.loadedAtOpening).rstnLow = s.rstnLow ∧
    (s.loadedAtOpening).freeDraws = s.freeDraws ∧
    (s.loadedAtOpening).pending = s.pending := by
  simp only [State.loadedAtOpening]
  simp

@[simp] theorem State.openParked_keeps (s : State) :
    (s.openParked).front = s.front ∧
    (s.openParked).plan = s.plan ∧
    (s.openParked).gate = s.gate ∧
    (s.openParked).timed = s.timed ∧
    (s.openParked).line = s.line ∧
    (s.openParked).coord = s.coord ∧
    (s.openParked).power.state = s.power.state ∧
    (s.openParked).power.clamp = s.power.clamp ∧
    (s.openParked).power.parkedSince = s.power.parkedSince ∧
    (s.openParked).power.wakeStart = s.power.wakeStart ∧
    (s.openParked).power.tally = s.power.tally ∧
    (s.openParked).power.selfTest = s.power.selfTest ∧
    (s.openParked).power.hdpw = s.power.hdpw ∧
    (s.openParked).rstnLow = s.rstnLow ∧
    (s.openParked).freeDraws = s.freeDraws ∧
    (s.openParked).pending = s.pending := by
  simp only [State.openParked]
  simp

@[simp] theorem State.emptyIfNew_keeps (s : State) (x : PlanPayload) :
    (s.emptyIfNew x).front = s.front ∧
    (s.emptyIfNew x).plan.number = s.plan.number ∧
    (s.emptyIfNew x).plan.fields = s.plan.fields ∧
    (s.emptyIfNew x).gate = s.gate ∧
    (s.emptyIfNew x).timed = s.timed ∧
    (s.emptyIfNew x).line = s.line ∧
    (s.emptyIfNew x).coord.source = s.coord.source ∧
    (s.emptyIfNew x).coord.roster = s.coord.roster ∧
    (s.emptyIfNew x).coord.stage = s.coord.stage ∧
    (s.emptyIfNew x).coord.home = s.coord.home ∧
    (s.emptyIfNew x).coord.remembered = s.coord.remembered ∧
    (s.emptyIfNew x).coord.windowEnd = s.coord.windowEnd ∧
    (s.emptyIfNew x).coord.gatherEnd = s.coord.gatherEnd ∧
    (s.emptyIfNew x).coord.waitEnd = s.coord.waitEnd ∧
    (s.emptyIfNew x).coord.deadline = s.coord.deadline ∧
    (s.emptyIfNew x).coord.expired = s.coord.expired ∧
    (s.emptyIfNew x).coord.suspension = s.coord.suspension ∧
    (s.emptyIfNew x).coord.holds = s.coord.holds ∧
    (s.emptyIfNew x).coord.restarts = s.coord.restarts ∧
    (s.emptyIfNew x).coord.runHolds = s.coord.runHolds ∧
    (s.emptyIfNew x).coord.runRestarts = s.coord.runRestarts ∧
    (s.emptyIfNew x).closure = s.closure ∧
    (s.emptyIfNew x).power = s.power ∧
    (s.emptyIfNew x).rstnLow = s.rstnLow ∧
    (s.emptyIfNew x).freeDraws = s.freeDraws ∧
    (s.emptyIfNew x).pending = s.pending := by
  simp only [State.emptyIfNew]
  (repeat' split) <;> simp

@[simp] theorem State.followLength_keeps (s : State) :
    (s.followLength).front = s.front ∧
    (s.followLength).plan = s.plan ∧
    (s.followLength).gate = s.gate ∧
    (s.followLength).timed = s.timed ∧
    (s.followLength).line = s.line ∧
    (s.followLength).coord.source = s.coord.source ∧
    (s.followLength).coord.roster = s.coord.roster ∧
    (s.followLength).coord.stage = s.coord.stage ∧
    (s.followLength).coord.home = s.coord.home ∧
    (s.followLength).coord.remembered = s.coord.remembered ∧
    (s.followLength).coord.windowEnd = s.coord.windowEnd ∧
    (s.followLength).coord.verdict = s.coord.verdict ∧
    (s.followLength).coord.results = s.coord.results ∧
    (s.followLength).coord.gatherEnd = s.coord.gatherEnd ∧
    (s.followLength).coord.waitEnd = s.coord.waitEnd ∧
    (s.followLength).coord.deadline = s.coord.deadline ∧
    (s.followLength).coord.expired = s.coord.expired ∧
    (s.followLength).coord.suspension = s.coord.suspension ∧
    (s.followLength).coord.holds = s.coord.holds ∧
    (s.followLength).coord.restarts = s.coord.restarts ∧
    (s.followLength).coord.runHolds = s.coord.runHolds ∧
    (s.followLength).coord.runRestarts = s.coord.runRestarts ∧
    (s.followLength).closure = s.closure ∧
    (s.followLength).power = s.power ∧
    (s.followLength).rstnLow = s.rstnLow ∧
    (s.followLength).freeDraws = s.freeDraws ∧
    (s.followLength).pending = s.pending := by
  simp only [State.followLength]
  (repeat' split) <;> simp

@[simp] theorem State.closePass_keeps (s : State) :
    (s.closePass).front = s.front ∧
    (s.closePass).plan = s.plan ∧
    (s.closePass).gate = s.gate ∧
    (s.closePass).timed = s.timed ∧
    (s.closePass).line = s.line ∧
    (s.closePass).coord = s.coord ∧
    (s.closePass).power = s.power ∧
    (s.closePass).rstnLow = s.rstnLow ∧
    (s.closePass).freeDraws = s.freeDraws ∧
    (s.closePass).pending = s.pending := by
  simp only [State.closePass]
  simp

@[simp] theorem State.closeFail_keeps (s : State) :
    (s.closeFail).front = s.front ∧
    (s.closeFail).plan = s.plan ∧
    (s.closeFail).gate = s.gate ∧
    (s.closeFail).timed = s.timed ∧
    (s.closeFail).line = s.line ∧
    (s.closeFail).coord = s.coord ∧
    (s.closeFail).closure.press = s.closure.press ∧
    (s.closeFail).closure.caln = s.closure.caln ∧
    (s.closeFail).power = s.power ∧
    (s.closeFail).rstnLow = s.rstnLow ∧
    (s.closeFail).freeDraws = s.freeDraws ∧
    (s.closeFail).pending = s.pending := by
  simp only [State.closeFail]
  simp

@[simp] theorem State.releaseRun_keeps (s : State) :
    (s.releaseRun).front = s.front ∧
    (s.releaseRun).plan = s.plan ∧
    (s.releaseRun).gate = s.gate ∧
    (s.releaseRun).timed = s.timed ∧
    (s.releaseRun).line = s.line ∧
    (s.releaseRun).coord.source = s.coord.source ∧
    (s.releaseRun).coord.roster = s.coord.roster ∧
    (s.releaseRun).coord.stage = s.coord.stage ∧
    (s.releaseRun).coord.home = s.coord.home ∧
    (s.releaseRun).coord.remembered = s.coord.remembered ∧
    (s.releaseRun).coord.windowEnd = s.coord.windowEnd ∧
    (s.releaseRun).coord.gatherEnd = s.coord.gatherEnd ∧
    (s.releaseRun).coord.waitEnd = s.coord.waitEnd ∧
    (s.releaseRun).coord.deadline = s.coord.deadline ∧
    (s.releaseRun).coord.expired = s.coord.expired ∧
    (s.releaseRun).coord.suspension = s.coord.suspension ∧
    (s.releaseRun).coord.holds = s.coord.holds ∧
    (s.releaseRun).coord.restarts = s.coord.restarts ∧
    (s.releaseRun).coord.runHolds = s.coord.runHolds ∧
    (s.releaseRun).coord.runRestarts = s.coord.runRestarts ∧
    (s.releaseRun).power = s.power ∧
    (s.releaseRun).rstnLow = s.rstnLow ∧
    (s.releaseRun).freeDraws = s.freeDraws ∧
    (s.releaseRun).pending = s.pending := by
  simp only [State.releaseRun]
  simp

@[simp] theorem State.takePresent_keeps (s : State) (source : Position) (plan : BitVec 16) :
    (s.takePresent source plan).front = s.front ∧
    (s.takePresent source plan).plan = s.plan ∧
    (s.takePresent source plan).gate = s.gate ∧
    (s.takePresent source plan).timed = s.timed ∧
    (s.takePresent source plan).line = s.line ∧
    (s.takePresent source plan).coord.step = s.coord.step ∧
    (s.takePresent source plan).coord.source = s.coord.source ∧
    (s.takePresent source plan).coord.home = s.coord.home ∧
    (s.takePresent source plan).coord.remembered = s.coord.remembered ∧
    (s.takePresent source plan).coord.windowEnd = s.coord.windowEnd ∧
    (s.takePresent source plan).coord.verdict = s.coord.verdict ∧
    (s.takePresent source plan).coord.results = s.coord.results ∧
    (s.takePresent source plan).coord.gatherEnd = s.coord.gatherEnd ∧
    (s.takePresent source plan).coord.waitEnd = s.coord.waitEnd ∧
    (s.takePresent source plan).coord.deadline = s.coord.deadline ∧
    (s.takePresent source plan).coord.expired = s.coord.expired ∧
    (s.takePresent source plan).coord.suspension = s.coord.suspension ∧
    (s.takePresent source plan).coord.holds = s.coord.holds ∧
    (s.takePresent source plan).coord.restarts = s.coord.restarts ∧
    (s.takePresent source plan).coord.runHolds = s.coord.runHolds ∧
    (s.takePresent source plan).coord.runRestarts = s.coord.runRestarts ∧
    (s.takePresent source plan).closure = s.closure ∧
    (s.takePresent source plan).power = s.power ∧
    (s.takePresent source plan).rstnLow = s.rstnLow ∧
    (s.takePresent source plan).freeDraws = s.freeDraws ∧
    (s.takePresent source plan).pending = s.pending := by
  simp only [State.takePresent]
  (repeat' split) <;> simp

@[simp] theorem State.strikeWaiting_keeps (s : State) (k : StepIx) :
    (s.strikeWaiting k).front = s.front ∧
    (s.strikeWaiting k).plan = s.plan ∧
    (s.strikeWaiting k).gate = s.gate ∧
    (s.strikeWaiting k).timed = s.timed ∧
    (s.strikeWaiting k).line.strap = s.line.strap ∧
    (s.strikeWaiting k).line.link = s.line.link ∧
    (s.strikeWaiting k).line.phase = s.line.phase ∧
    (s.strikeWaiting k).line.endSlot = s.line.endSlot ∧
    (s.strikeWaiting k).line.gapEnd = s.line.gapEnd ∧
    (s.strikeWaiting k).line.recessiveSince = s.line.recessiveSince ∧
    (s.strikeWaiting k).line.receive = s.line.receive ∧
    (s.strikeWaiting k).line.transmit = s.line.transmit ∧
    (s.strikeWaiting k).line.role = s.line.role ∧
    (s.strikeWaiting k).line.abortDriven = s.line.abortDriven ∧
    (s.strikeWaiting k).coord.run = s.coord.run ∧
    (s.strikeWaiting k).coord.step = s.coord.step ∧
    (s.strikeWaiting k).coord.source = s.coord.source ∧
    (s.strikeWaiting k).coord.stage = s.coord.stage ∧
    (s.strikeWaiting k).coord.home = s.coord.home ∧
    (s.strikeWaiting k).coord.remembered = s.coord.remembered ∧
    (s.strikeWaiting k).coord.windowEnd = s.coord.windowEnd ∧
    (s.strikeWaiting k).coord.verdict = s.coord.verdict ∧
    (s.strikeWaiting k).coord.results = s.coord.results ∧
    (s.strikeWaiting k).coord.waitEnd = s.coord.waitEnd ∧
    (s.strikeWaiting k).coord.deadline = s.coord.deadline ∧
    (s.strikeWaiting k).coord.expired = s.coord.expired ∧
    (s.strikeWaiting k).coord.suspension = s.coord.suspension ∧
    (s.strikeWaiting k).coord.holds = s.coord.holds ∧
    (s.strikeWaiting k).coord.restarts = s.coord.restarts ∧
    (s.strikeWaiting k).coord.runHolds = s.coord.runHolds ∧
    (s.strikeWaiting k).coord.runRestarts = s.coord.runRestarts ∧
    (s.strikeWaiting k).closure = s.closure ∧
    (s.strikeWaiting k).power = s.power ∧
    (s.strikeWaiting k).rstnLow = s.rstnLow ∧
    (s.strikeWaiting k).freeDraws = s.freeDraws ∧
    (s.strikeWaiting k).pending = s.pending := by
  simp only [State.strikeWaiting]
  simp

@[simp] theorem State.lapseAfresh_keeps (s : State) (k : StepIx) :
    (s.lapseAfresh k).front = s.front ∧
    (s.lapseAfresh k).plan = s.plan ∧
    (s.lapseAfresh k).gate = s.gate ∧
    (s.lapseAfresh k).timed = s.timed ∧
    (s.lapseAfresh k).line.strap = s.line.strap ∧
    (s.lapseAfresh k).line.link = s.line.link ∧
    (s.lapseAfresh k).line.phase = s.line.phase ∧
    (s.lapseAfresh k).line.endSlot = s.line.endSlot ∧
    (s.lapseAfresh k).line.gapEnd = s.line.gapEnd ∧
    (s.lapseAfresh k).line.recessiveSince = s.line.recessiveSince ∧
    (s.lapseAfresh k).line.receive = s.line.receive ∧
    (s.lapseAfresh k).line.transmit = s.line.transmit ∧
    (s.lapseAfresh k).line.role = s.line.role ∧
    (s.lapseAfresh k).line.abortDriven = s.line.abortDriven ∧
    (s.lapseAfresh k).coord = s.coord ∧
    (s.lapseAfresh k).closure = s.closure ∧
    (s.lapseAfresh k).power = s.power ∧
    (s.lapseAfresh k).rstnLow = s.rstnLow ∧
    (s.lapseAfresh k).freeDraws = s.freeDraws ∧
    (s.lapseAfresh k).pending = s.pending := by
  simp only [State.lapseAfresh]
  (repeat' split) <;> simp

@[simp] theorem State.lapseResult_keeps (s : State) (k : StepIx) :
    (s.lapseResult k).front = s.front ∧
    (s.lapseResult k).plan = s.plan ∧
    (s.lapseResult k).gate = s.gate ∧
    (s.lapseResult k).timed = s.timed ∧
    (s.lapseResult k).line.strap = s.line.strap ∧
    (s.lapseResult k).line.link = s.line.link ∧
    (s.lapseResult k).line.phase = s.line.phase ∧
    (s.lapseResult k).line.endSlot = s.line.endSlot ∧
    (s.lapseResult k).line.gapEnd = s.line.gapEnd ∧
    (s.lapseResult k).line.recessiveSince = s.line.recessiveSince ∧
    (s.lapseResult k).line.receive = s.line.receive ∧
    (s.lapseResult k).line.transmit = s.line.transmit ∧
    (s.lapseResult k).line.role = s.line.role ∧
    (s.lapseResult k).line.abortDriven = s.line.abortDriven ∧
    (s.lapseResult k).coord.run = s.coord.run ∧
    (s.lapseResult k).coord.step = s.coord.step ∧
    (s.lapseResult k).coord.source = s.coord.source ∧
    (s.lapseResult k).coord.roster = s.coord.roster ∧
    (s.lapseResult k).coord.stage = s.coord.stage ∧
    (s.lapseResult k).coord.home = s.coord.home ∧
    (s.lapseResult k).coord.remembered = s.coord.remembered ∧
    (s.lapseResult k).coord.windowEnd = s.coord.windowEnd ∧
    (s.lapseResult k).coord.verdict = s.coord.verdict ∧
    (s.lapseResult k).coord.gatherEnd = s.coord.gatherEnd ∧
    (s.lapseResult k).coord.waitEnd = s.coord.waitEnd ∧
    (s.lapseResult k).coord.deadline = s.coord.deadline ∧
    (s.lapseResult k).coord.expired = s.coord.expired ∧
    (s.lapseResult k).coord.suspension = s.coord.suspension ∧
    (s.lapseResult k).coord.holds = s.coord.holds ∧
    (s.lapseResult k).coord.restarts = s.coord.restarts ∧
    (s.lapseResult k).coord.runHolds = s.coord.runHolds ∧
    (s.lapseResult k).coord.runRestarts = s.coord.runRestarts ∧
    (s.lapseResult k).closure = s.closure ∧
    (s.lapseResult k).power = s.power ∧
    (s.lapseResult k).rstnLow = s.rstnLow ∧
    (s.lapseResult k).freeDraws = s.freeDraws ∧
    (s.lapseResult k).pending = s.pending := by
  simp only [State.lapseResult]
  (repeat' split) <;> simp

@[simp] theorem State.endMuster_keeps (s : State) :
    (s.endMuster).front = s.front ∧
    (s.endMuster).plan = s.plan ∧
    (s.endMuster).gate = s.gate ∧
    (s.endMuster).timed = s.timed ∧
    (s.endMuster).line.strap = s.line.strap ∧
    (s.endMuster).line.link = s.line.link ∧
    (s.endMuster).line.phase = s.line.phase ∧
    (s.endMuster).line.endSlot = s.line.endSlot ∧
    (s.endMuster).line.gapEnd = s.line.gapEnd ∧
    (s.endMuster).line.recessiveSince = s.line.recessiveSince ∧
    (s.endMuster).line.receive = s.line.receive ∧
    (s.endMuster).line.transmit = s.line.transmit ∧
    (s.endMuster).line.role = s.line.role ∧
    (s.endMuster).line.abortDriven = s.line.abortDriven ∧
    (s.endMuster).coord.run = s.coord.run ∧
    (s.endMuster).coord.step = s.coord.step ∧
    (s.endMuster).coord.source = s.coord.source ∧
    (s.endMuster).coord.verdict = s.coord.verdict ∧
    (s.endMuster).coord.results = s.coord.results ∧
    (s.endMuster).coord.gatherEnd = s.coord.gatherEnd ∧
    (s.endMuster).coord.waitEnd = s.coord.waitEnd ∧
    (s.endMuster).coord.deadline = s.coord.deadline ∧
    (s.endMuster).coord.expired = s.coord.expired ∧
    (s.endMuster).coord.suspension = s.coord.suspension ∧
    (s.endMuster).coord.holds = s.coord.holds ∧
    (s.endMuster).coord.restarts = s.coord.restarts ∧
    (s.endMuster).coord.runHolds = s.coord.runHolds ∧
    (s.endMuster).coord.runRestarts = s.coord.runRestarts ∧
    (s.endMuster).closure = s.closure ∧
    (s.endMuster).power = s.power ∧
    (s.endMuster).rstnLow = s.rstnLow ∧
    (s.endMuster).freeDraws = s.freeDraws ∧
    (s.endMuster).pending = s.pending := by
  simp only [State.endMuster]
  (repeat' split) <;> simp

@[simp] theorem State.unitsToIdle_keeps (s : State) :
    (s.unitsToIdle).front.timeBase = s.front.timeBase ∧
    (s.unitsToIdle).front.mtp = s.front.mtp ∧
    (s.unitsToIdle).front.planSetting = s.front.planSetting ∧
    (s.unitsToIdle).front.input = s.front.input ∧
    (s.unitsToIdle).front.candidate = s.front.candidate ∧
    (s.unitsToIdle).front.releaseTime = s.front.releaseTime ∧
    (s.unitsToIdle).front.lastPulse = s.front.lastPulse ∧
    (s.unitsToIdle).front.lastPeriod = s.front.lastPeriod ∧
    (s.unitsToIdle).front.nextEdge = s.front.nextEdge ∧
    (s.unitsToIdle).front.refSeen = s.front.refSeen ∧
    (s.unitsToIdle).front.loop = s.front.loop ∧
    (s.unitsToIdle).plan = s.plan ∧
    (s.unitsToIdle).line = s.line ∧
    (s.unitsToIdle).coord = s.coord ∧
    (s.unitsToIdle).closure = s.closure ∧
    (s.unitsToIdle).power = s.power ∧
    (s.unitsToIdle).rstnLow = s.rstnLow ∧
    (s.unitsToIdle).freeDraws = s.freeDraws ∧
    (s.unitsToIdle).pending = s.pending := by
  simp only [State.unitsToIdle]
  simp

@[simp] theorem State.enterLinkFault_keeps (s : State) :
    (s.enterLinkFault).front = s.front ∧
    (s.enterLinkFault).plan = s.plan ∧
    (s.enterLinkFault).gate = s.gate ∧
    (s.enterLinkFault).timed = s.timed ∧
    (s.enterLinkFault).line.strap = s.line.strap ∧
    (s.enterLinkFault).line.phase = s.line.phase ∧
    (s.enterLinkFault).line.endSlot = s.line.endSlot ∧
    (s.enterLinkFault).line.gapEnd = s.line.gapEnd ∧
    (s.enterLinkFault).line.recessiveSince = s.line.recessiveSince ∧
    (s.enterLinkFault).line.receive = s.line.receive ∧
    (s.enterLinkFault).line.transmit = s.line.transmit ∧
    (s.enterLinkFault).line.role = s.line.role ∧
    (s.enterLinkFault).line.abortDriven = s.line.abortDriven ∧
    (s.enterLinkFault).coord = s.coord ∧
    (s.enterLinkFault).closure = s.closure ∧
    (s.enterLinkFault).power = s.power ∧
    (s.enterLinkFault).rstnLow = s.rstnLow ∧
    (s.enterLinkFault).freeDraws = s.freeDraws ∧
    (s.enterLinkFault).pending = s.pending := by
  simp only [State.enterLinkFault]
  simp

@[simp] theorem State.enterDuplicate_keeps (s : State) :
    (s.enterDuplicate).front = s.front ∧
    (s.enterDuplicate).plan = s.plan ∧
    (s.enterDuplicate).gate = s.gate ∧
    (s.enterDuplicate).timed = s.timed ∧
    (s.enterDuplicate).coord = s.coord ∧
    (s.enterDuplicate).closure = s.closure ∧
    (s.enterDuplicate).power = s.power ∧
    (s.enterDuplicate).rstnLow = s.rstnLow ∧
    (s.enterDuplicate).freeDraws = s.freeDraws ∧
    (s.enterDuplicate).pending = s.pending := by
  simp only [State.enterDuplicate]
  simp

@[simp] theorem State.changeDeadline_keeps (s : State) (d : Option Nat) :
    (s.changeDeadline d).front = s.front ∧
    (s.changeDeadline d).plan = s.plan ∧
    (s.changeDeadline d).gate.state = s.gate.state ∧
    (s.changeDeadline d).gate.step = s.gate.step ∧
    (s.changeDeadline d).gate.settings = s.gate.settings ∧
    (s.changeDeadline d).gate.n = s.gate.n ∧
    (s.changeDeadline d).gate.error = s.gate.error ∧
    (s.changeDeadline d).timed = s.timed ∧
    (s.changeDeadline d).line.strap = s.line.strap ∧
    (s.changeDeadline d).line.link = s.line.link ∧
    (s.changeDeadline d).line.phase = s.line.phase ∧
    (s.changeDeadline d).line.endSlot = s.line.endSlot ∧
    (s.changeDeadline d).line.gapEnd = s.line.gapEnd ∧
    (s.changeDeadline d).line.recessiveSince = s.line.recessiveSince ∧
    (s.changeDeadline d).line.receive = s.line.receive ∧
    (s.changeDeadline d).line.transmit = s.line.transmit ∧
    (s.changeDeadline d).line.role = s.line.role ∧
    (s.changeDeadline d).line.abortDriven = s.line.abortDriven ∧
    (s.changeDeadline d).coord.run = s.coord.run ∧
    (s.changeDeadline d).coord.step = s.coord.step ∧
    (s.changeDeadline d).coord.source = s.coord.source ∧
    (s.changeDeadline d).coord.roster = s.coord.roster ∧
    (s.changeDeadline d).coord.stage = s.coord.stage ∧
    (s.changeDeadline d).coord.home = s.coord.home ∧
    (s.changeDeadline d).coord.remembered = s.coord.remembered ∧
    (s.changeDeadline d).coord.windowEnd = s.coord.windowEnd ∧
    (s.changeDeadline d).coord.verdict = s.coord.verdict ∧
    (s.changeDeadline d).coord.results = s.coord.results ∧
    (s.changeDeadline d).coord.gatherEnd = s.coord.gatherEnd ∧
    (s.changeDeadline d).coord.waitEnd = s.coord.waitEnd ∧
    (s.changeDeadline d).coord.suspension = s.coord.suspension ∧
    (s.changeDeadline d).coord.holds = s.coord.holds ∧
    (s.changeDeadline d).coord.restarts = s.coord.restarts ∧
    (s.changeDeadline d).coord.runHolds = s.coord.runHolds ∧
    (s.changeDeadline d).coord.runRestarts = s.coord.runRestarts ∧
    (s.changeDeadline d).closure = s.closure ∧
    (s.changeDeadline d).power = s.power ∧
    (s.changeDeadline d).rstnLow = s.rstnLow ∧
    (s.changeDeadline d).freeDraws = s.freeDraws ∧
    (s.changeDeadline d).pending = s.pending := by
  simp only [State.changeDeadline]
  simp

@[simp] theorem State.armUnits_keeps (s : State) (k : StepIx) :
    (s.armUnits k).front = s.front ∧
    (s.armUnits k).plan = s.plan ∧
    (s.armUnits k).line = s.line ∧
    (s.armUnits k).coord = s.coord ∧
    (s.armUnits k).closure = s.closure ∧
    (s.armUnits k).power = s.power ∧
    (s.armUnits k).rstnLow = s.rstnLow ∧
    (s.armUnits k).freeDraws = s.freeDraws ∧
    (s.armUnits k).pending = s.pending := by
  simp only [State.armUnits]
  (repeat' split) <;> simp

@[simp] theorem State.advance_keeps (s : State) (k : StepIx) :
    (s.advance k).front.timeBase = s.front.timeBase ∧
    (s.advance k).front.mtp = s.front.mtp ∧
    (s.advance k).front.planSetting = s.front.planSetting ∧
    (s.advance k).front.input = s.front.input ∧
    (s.advance k).front.candidate = s.front.candidate ∧
    (s.advance k).front.releaseTime = s.front.releaseTime ∧
    (s.advance k).front.lastPulse = s.front.lastPulse ∧
    (s.advance k).front.lastPeriod = s.front.lastPeriod ∧
    (s.advance k).front.counter = s.front.counter ∧
    (s.advance k).front.refSeen = s.front.refSeen ∧
    (s.advance k).front.loop = s.front.loop ∧
    (s.advance k).plan = s.plan ∧
    (s.advance k).gate = s.gate ∧
    (s.advance k).timed = s.timed ∧
    (s.advance k).line.strap = s.line.strap ∧
    (s.advance k).line.link = s.line.link ∧
    (s.advance k).line.phase = s.line.phase ∧
    (s.advance k).line.endSlot = s.line.endSlot ∧
    (s.advance k).line.gapEnd = s.line.gapEnd ∧
    (s.advance k).line.recessiveSince = s.line.recessiveSince ∧
    (s.advance k).line.receive = s.line.receive ∧
    (s.advance k).line.transmit = s.line.transmit ∧
    (s.advance k).line.role = s.line.role ∧
    (s.advance k).line.abortDriven = s.line.abortDriven ∧
    (s.advance k).coord.source = s.coord.source ∧
    (s.advance k).coord.stage = s.coord.stage ∧
    (s.advance k).coord.home = s.coord.home ∧
    (s.advance k).coord.remembered = s.coord.remembered ∧
    (s.advance k).coord.windowEnd = s.coord.windowEnd ∧
    (s.advance k).coord.results = s.coord.results ∧
    (s.advance k).coord.runHolds = s.coord.runHolds ∧
    (s.advance k).coord.runRestarts = s.coord.runRestarts ∧
    (s.advance k).closure = s.closure ∧
    (s.advance k).power = s.power ∧
    (s.advance k).rstnLow = s.rstnLow ∧
    (s.advance k).freeDraws = s.freeDraws ∧
    (s.advance k).pending = s.pending := by
  simp only [State.advance]
  (repeat' split) <;> simp

@[simp] theorem State.reportInvalid_keeps (s : State) (k : StepIx) (r : StepRecord) :
    (s.reportInvalid k r).front = s.front ∧
    (s.reportInvalid k r).plan = s.plan ∧
    (s.reportInvalid k r).gate = s.gate ∧
    (s.reportInvalid k r).timed = s.timed ∧
    (s.reportInvalid k r).line.strap = s.line.strap ∧
    (s.reportInvalid k r).line.link = s.line.link ∧
    (s.reportInvalid k r).line.phase = s.line.phase ∧
    (s.reportInvalid k r).line.endSlot = s.line.endSlot ∧
    (s.reportInvalid k r).line.gapEnd = s.line.gapEnd ∧
    (s.reportInvalid k r).line.recessiveSince = s.line.recessiveSince ∧
    (s.reportInvalid k r).line.receive = s.line.receive ∧
    (s.reportInvalid k r).line.transmit = s.line.transmit ∧
    (s.reportInvalid k r).line.role = s.line.role ∧
    (s.reportInvalid k r).line.abortDriven = s.line.abortDriven ∧
    (s.reportInvalid k r).coord.run = s.coord.run ∧
    (s.reportInvalid k r).coord.step = s.coord.step ∧
    (s.reportInvalid k r).coord.source = s.coord.source ∧
    (s.reportInvalid k r).coord.roster = s.coord.roster ∧
    (s.reportInvalid k r).coord.stage = s.coord.stage ∧
    (s.reportInvalid k r).coord.home = s.coord.home ∧
    (s.reportInvalid k r).coord.remembered = s.coord.remembered ∧
    (s.reportInvalid k r).coord.windowEnd = s.coord.windowEnd ∧
    (s.reportInvalid k r).coord.verdict = s.coord.verdict ∧
    (s.reportInvalid k r).coord.gatherEnd = s.coord.gatherEnd ∧
    (s.reportInvalid k r).coord.waitEnd = s.coord.waitEnd ∧
    (s.reportInvalid k r).coord.deadline = s.coord.deadline ∧
    (s.reportInvalid k r).coord.expired = s.coord.expired ∧
    (s.reportInvalid k r).coord.suspension = s.coord.suspension ∧
    (s.reportInvalid k r).coord.holds = s.coord.holds ∧
    (s.reportInvalid k r).coord.restarts = s.coord.restarts ∧
    (s.reportInvalid k r).coord.runHolds = s.coord.runHolds ∧
    (s.reportInvalid k r).coord.runRestarts = s.coord.runRestarts ∧
    (s.reportInvalid k r).closure = s.closure ∧
    (s.reportInvalid k r).power = s.power ∧
    (s.reportInvalid k r).rstnLow = s.rstnLow ∧
    (s.reportInvalid k r).freeDraws = s.freeDraws ∧
    (s.reportInvalid k r).pending = s.pending := by
  simp only [State.reportInvalid]
  (repeat' split) <;> simp

@[simp] theorem State.closeGate_keeps (s : State) (k : StepIx) (g : GateSettings) (n : Nat) (period : Option Nat) :
    (s.closeGate k g n period).front.timeBase = s.front.timeBase ∧
    (s.closeGate k g n period).front.mtp = s.front.mtp ∧
    (s.closeGate k g n period).front.planSetting = s.front.planSetting ∧
    (s.closeGate k g n period).front.input = s.front.input ∧
    (s.closeGate k g n period).front.candidate = s.front.candidate ∧
    (s.closeGate k g n period).front.releaseTime = s.front.releaseTime ∧
    (s.closeGate k g n period).front.lastPulse = s.front.lastPulse ∧
    (s.closeGate k g n period).front.lastPeriod = s.front.lastPeriod ∧
    (s.closeGate k g n period).front.nextEdge = s.front.nextEdge ∧
    (s.closeGate k g n period).front.refSeen = s.front.refSeen ∧
    (s.closeGate k g n period).front.loop = s.front.loop ∧
    (s.closeGate k g n period).plan = s.plan ∧
    (s.closeGate k g n period).timed = s.timed ∧
    (s.closeGate k g n period).line.strap = s.line.strap ∧
    (s.closeGate k g n period).line.link = s.line.link ∧
    (s.closeGate k g n period).line.phase = s.line.phase ∧
    (s.closeGate k g n period).line.endSlot = s.line.endSlot ∧
    (s.closeGate k g n period).line.gapEnd = s.line.gapEnd ∧
    (s.closeGate k g n period).line.recessiveSince = s.line.recessiveSince ∧
    (s.closeGate k g n period).line.receive = s.line.receive ∧
    (s.closeGate k g n period).line.transmit = s.line.transmit ∧
    (s.closeGate k g n period).line.role = s.line.role ∧
    (s.closeGate k g n period).line.abortDriven = s.line.abortDriven ∧
    (s.closeGate k g n period).coord.run = s.coord.run ∧
    (s.closeGate k g n period).coord.step = s.coord.step ∧
    (s.closeGate k g n period).coord.source = s.coord.source ∧
    (s.closeGate k g n period).coord.roster = s.coord.roster ∧
    (s.closeGate k g n period).coord.stage = s.coord.stage ∧
    (s.closeGate k g n period).coord.home = s.coord.home ∧
    (s.closeGate k g n period).coord.remembered = s.coord.remembered ∧
    (s.closeGate k g n period).coord.windowEnd = s.coord.windowEnd ∧
    (s.closeGate k g n period).coord.verdict = s.coord.verdict ∧
    (s.closeGate k g n period).coord.gatherEnd = s.coord.gatherEnd ∧
    (s.closeGate k g n period).coord.waitEnd = s.coord.waitEnd ∧
    (s.closeGate k g n period).coord.deadline = s.coord.deadline ∧
    (s.closeGate k g n period).coord.expired = s.coord.expired ∧
    (s.closeGate k g n period).coord.suspension = s.coord.suspension ∧
    (s.closeGate k g n period).coord.holds = s.coord.holds ∧
    (s.closeGate k g n period).coord.restarts = s.coord.restarts ∧
    (s.closeGate k g n period).coord.runHolds = s.coord.runHolds ∧
    (s.closeGate k g n period).coord.runRestarts = s.coord.runRestarts ∧
    (s.closeGate k g n period).closure = s.closure ∧
    (s.closeGate k g n period).power = s.power ∧
    (s.closeGate k g n period).rstnLow = s.rstnLow ∧
    (s.closeGate k g n period).freeDraws = s.freeDraws ∧
    (s.closeGate k g n period).pending = s.pending := by
  simp only [State.closeGate]
  simp

@[simp] theorem State.predictHold_keeps (s : State) (k : StepIx) (g : GateSettings) (n stamp : Nat) (period : Option Nat) :
    (s.predictHold k g n stamp period).front = s.front ∧
    (s.predictHold k g n stamp period).plan = s.plan ∧
    (s.predictHold k g n stamp period).gate.state = s.gate.state ∧
    (s.predictHold k g n stamp period).gate.step = s.gate.step ∧
    (s.predictHold k g n stamp period).gate.settings = s.gate.settings ∧
    (s.predictHold k g n stamp period).gate.n = s.gate.n ∧
    (s.predictHold k g n stamp period).gate.error = s.gate.error ∧
    (s.predictHold k g n stamp period).timed = s.timed ∧
    (s.predictHold k g n stamp period).line.strap = s.line.strap ∧
    (s.predictHold k g n stamp period).line.link = s.line.link ∧
    (s.predictHold k g n stamp period).line.phase = s.line.phase ∧
    (s.predictHold k g n stamp period).line.endSlot = s.line.endSlot ∧
    (s.predictHold k g n stamp period).line.gapEnd = s.line.gapEnd ∧
    (s.predictHold k g n stamp period).line.recessiveSince = s.line.recessiveSince ∧
    (s.predictHold k g n stamp period).line.receive = s.line.receive ∧
    (s.predictHold k g n stamp period).line.transmit = s.line.transmit ∧
    (s.predictHold k g n stamp period).line.role = s.line.role ∧
    (s.predictHold k g n stamp period).line.abortDriven = s.line.abortDriven ∧
    (s.predictHold k g n stamp period).coord = s.coord ∧
    (s.predictHold k g n stamp period).closure = s.closure ∧
    (s.predictHold k g n stamp period).power = s.power ∧
    (s.predictHold k g n stamp period).rstnLow = s.rstnLow ∧
    (s.predictHold k g n stamp period).freeDraws = s.freeDraws ∧
    (s.predictHold k g n stamp period).pending = s.pending := by
  simp only [State.predictHold]
  (repeat' split) <;> simp

@[simp] theorem State.formTimed_keeps (s : State) (k : StepIx) (count : Nat) (elapsed : Option Nat) (v : Verdict) :
    (s.formTimed k count elapsed v).front = s.front ∧
    (s.formTimed k count elapsed v).plan = s.plan ∧
    (s.formTimed k count elapsed v).gate = s.gate ∧
    (s.formTimed k count elapsed v).timed.step = s.timed.step ∧
    (s.formTimed k count elapsed v).timed.settings = s.timed.settings ∧
    (s.formTimed k count elapsed v).line.strap = s.line.strap ∧
    (s.formTimed k count elapsed v).line.link = s.line.link ∧
    (s.formTimed k count elapsed v).line.phase = s.line.phase ∧
    (s.formTimed k count elapsed v).line.endSlot = s.line.endSlot ∧
    (s.formTimed k count elapsed v).line.gapEnd = s.line.gapEnd ∧
    (s.formTimed k count elapsed v).line.recessiveSince = s.line.recessiveSince ∧
    (s.formTimed k count elapsed v).line.receive = s.line.receive ∧
    (s.formTimed k count elapsed v).line.transmit = s.line.transmit ∧
    (s.formTimed k count elapsed v).line.role = s.line.role ∧
    (s.formTimed k count elapsed v).line.abortDriven = s.line.abortDriven ∧
    (s.formTimed k count elapsed v).coord.run = s.coord.run ∧
    (s.formTimed k count elapsed v).coord.step = s.coord.step ∧
    (s.formTimed k count elapsed v).coord.source = s.coord.source ∧
    (s.formTimed k count elapsed v).coord.roster = s.coord.roster ∧
    (s.formTimed k count elapsed v).coord.stage = s.coord.stage ∧
    (s.formTimed k count elapsed v).coord.home = s.coord.home ∧
    (s.formTimed k count elapsed v).coord.remembered = s.coord.remembered ∧
    (s.formTimed k count elapsed v).coord.windowEnd = s.coord.windowEnd ∧
    (s.formTimed k count elapsed v).coord.verdict = s.coord.verdict ∧
    (s.formTimed k count elapsed v).coord.gatherEnd = s.coord.gatherEnd ∧
    (s.formTimed k count elapsed v).coord.waitEnd = s.coord.waitEnd ∧
    (s.formTimed k count elapsed v).coord.deadline = s.coord.deadline ∧
    (s.formTimed k count elapsed v).coord.expired = s.coord.expired ∧
    (s.formTimed k count elapsed v).coord.suspension = s.coord.suspension ∧
    (s.formTimed k count elapsed v).coord.holds = s.coord.holds ∧
    (s.formTimed k count elapsed v).coord.restarts = s.coord.restarts ∧
    (s.formTimed k count elapsed v).coord.runHolds = s.coord.runHolds ∧
    (s.formTimed k count elapsed v).coord.runRestarts = s.coord.runRestarts ∧
    (s.formTimed k count elapsed v).closure = s.closure ∧
    (s.formTimed k count elapsed v).power = s.power ∧
    (s.formTimed k count elapsed v).rstnLow = s.rstnLow ∧
    (s.formTimed k count elapsed v).freeDraws = s.freeDraws ∧
    (s.formTimed k count elapsed v).pending = s.pending := by
  simp only [State.formTimed]
  simp

@[simp] theorem State.formAtDuration_keeps (s : State) (k : StepIx) (x : TimedSettings) (count : Nat) :
    (s.formAtDuration k x count).front = s.front ∧
    (s.formAtDuration k x count).plan = s.plan ∧
    (s.formAtDuration k x count).gate = s.gate ∧
    (s.formAtDuration k x count).timed.step = s.timed.step ∧
    (s.formAtDuration k x count).timed.settings = s.timed.settings ∧
    (s.formAtDuration k x count).line.strap = s.line.strap ∧
    (s.formAtDuration k x count).line.link = s.line.link ∧
    (s.formAtDuration k x count).line.phase = s.line.phase ∧
    (s.formAtDuration k x count).line.endSlot = s.line.endSlot ∧
    (s.formAtDuration k x count).line.gapEnd = s.line.gapEnd ∧
    (s.formAtDuration k x count).line.recessiveSince = s.line.recessiveSince ∧
    (s.formAtDuration k x count).line.receive = s.line.receive ∧
    (s.formAtDuration k x count).line.transmit = s.line.transmit ∧
    (s.formAtDuration k x count).line.role = s.line.role ∧
    (s.formAtDuration k x count).line.abortDriven = s.line.abortDriven ∧
    (s.formAtDuration k x count).coord.run = s.coord.run ∧
    (s.formAtDuration k x count).coord.step = s.coord.step ∧
    (s.formAtDuration k x count).coord.source = s.coord.source ∧
    (s.formAtDuration k x count).coord.roster = s.coord.roster ∧
    (s.formAtDuration k x count).coord.stage = s.coord.stage ∧
    (s.formAtDuration k x count).coord.home = s.coord.home ∧
    (s.formAtDuration k x count).coord.remembered = s.coord.remembered ∧
    (s.formAtDuration k x count).coord.windowEnd = s.coord.windowEnd ∧
    (s.formAtDuration k x count).coord.verdict = s.coord.verdict ∧
    (s.formAtDuration k x count).coord.gatherEnd = s.coord.gatherEnd ∧
    (s.formAtDuration k x count).coord.waitEnd = s.coord.waitEnd ∧
    (s.formAtDuration k x count).coord.deadline = s.coord.deadline ∧
    (s.formAtDuration k x count).coord.expired = s.coord.expired ∧
    (s.formAtDuration k x count).coord.suspension = s.coord.suspension ∧
    (s.formAtDuration k x count).coord.holds = s.coord.holds ∧
    (s.formAtDuration k x count).coord.restarts = s.coord.restarts ∧
    (s.formAtDuration k x count).coord.runHolds = s.coord.runHolds ∧
    (s.formAtDuration k x count).coord.runRestarts = s.coord.runRestarts ∧
    (s.formAtDuration k x count).closure = s.closure ∧
    (s.formAtDuration k x count).power = s.power ∧
    (s.formAtDuration k x count).rstnLow = s.rstnLow ∧
    (s.formAtDuration k x count).freeDraws = s.freeDraws ∧
    (s.formAtDuration k x count).pending = s.pending := by
  simp only [State.formAtDuration]
  simp

@[simp] theorem State.expireWindow_keeps (s : State) :
    (s.expireWindow).front = s.front ∧
    (s.expireWindow).plan = s.plan ∧
    (s.expireWindow).gate = s.gate ∧
    (s.expireWindow).timed = s.timed ∧
    (s.expireWindow).line.strap = s.line.strap ∧
    (s.expireWindow).line.link = s.line.link ∧
    (s.expireWindow).line.phase = s.line.phase ∧
    (s.expireWindow).line.endSlot = s.line.endSlot ∧
    (s.expireWindow).line.gapEnd = s.line.gapEnd ∧
    (s.expireWindow).line.recessiveSince = s.line.recessiveSince ∧
    (s.expireWindow).line.receive = s.line.receive ∧
    (s.expireWindow).line.transmit = s.line.transmit ∧
    (s.expireWindow).line.role = s.line.role ∧
    (s.expireWindow).line.abortDriven = s.line.abortDriven ∧
    (s.expireWindow).coord.source = s.coord.source ∧
    (s.expireWindow).coord.verdict = s.coord.verdict ∧
    (s.expireWindow).coord.results = s.coord.results ∧
    (s.expireWindow).coord.gatherEnd = s.coord.gatherEnd ∧
    (s.expireWindow).coord.waitEnd = s.coord.waitEnd ∧
    (s.expireWindow).coord.deadline = s.coord.deadline ∧
    (s.expireWindow).coord.expired = s.coord.expired ∧
    (s.expireWindow).coord.suspension = s.coord.suspension ∧
    (s.expireWindow).coord.holds = s.coord.holds ∧
    (s.expireWindow).coord.restarts = s.coord.restarts ∧
    (s.expireWindow).coord.runHolds = s.coord.runHolds ∧
    (s.expireWindow).coord.runRestarts = s.coord.runRestarts ∧
    (s.expireWindow).closure = s.closure ∧
    (s.expireWindow).power = s.power ∧
    (s.expireWindow).rstnLow = s.rstnLow ∧
    (s.expireWindow).freeDraws = s.freeDraws ∧
    (s.expireWindow).pending = s.pending := by
  simp only [State.expireWindow]
  (repeat' split) <;> simp

@[simp] theorem State.startBurst_keeps (s : State) :
    (s.startBurst).plan = s.plan ∧
    (s.startBurst).gate = s.gate ∧
    (s.startBurst).timed = s.timed ∧
    (s.startBurst).line = s.line ∧
    (s.startBurst).coord = s.coord ∧
    (s.startBurst).closure = s.closure ∧
    (s.startBurst).power.state = s.power.state ∧
    (s.startBurst).power.clamp = s.power.clamp ∧
    (s.startBurst).power.parkedSince = s.power.parkedSince ∧
    (s.startBurst).power.heldClosing = s.power.heldClosing ∧
    (s.startBurst).power.wakeStart = s.power.wakeStart ∧
    (s.startBurst).power.selfTest = s.power.selfTest ∧
    (s.startBurst).power.hdpw = s.power.hdpw ∧
    (s.startBurst).rstnLow = s.rstnLow ∧
    (s.startBurst).freeDraws = s.freeDraws ∧
    (s.startBurst).pending = s.pending := by
  simp only [State.startBurst]
  simp

@[simp] theorem State.endBurst_keeps (s : State) :
    (s.endBurst).plan = s.plan ∧
    (s.endBurst).gate = s.gate ∧
    (s.endBurst).timed = s.timed ∧
    (s.endBurst).line = s.line ∧
    (s.endBurst).coord = s.coord ∧
    (s.endBurst).closure = s.closure ∧
    (s.endBurst).power.state = s.power.state ∧
    (s.endBurst).power.clamp = s.power.clamp ∧
    (s.endBurst).power.parkedSince = s.power.parkedSince ∧
    (s.endBurst).power.heldClosing = s.power.heldClosing ∧
    (s.endBurst).power.wakeStart = s.power.wakeStart ∧
    (s.endBurst).power.selfTest = s.power.selfTest ∧
    (s.endBurst).power.hdpw = s.power.hdpw ∧
    (s.endBurst).rstnLow = s.rstnLow ∧
    (s.endBurst).freeDraws = s.freeDraws ∧
    (s.endBurst).pending = s.pending := by
  simp only [State.endBurst]
  simp

@[simp] theorem State.settleMuster_keeps (s : State) :
    (s.settleMuster).front = s.front ∧
    (s.settleMuster).plan = s.plan ∧
    (s.settleMuster).gate = s.gate ∧
    (s.settleMuster).timed = s.timed ∧
    (s.settleMuster).line.strap = s.line.strap ∧
    (s.settleMuster).line.link = s.line.link ∧
    (s.settleMuster).line.phase = s.line.phase ∧
    (s.settleMuster).line.endSlot = s.line.endSlot ∧
    (s.settleMuster).line.gapEnd = s.line.gapEnd ∧
    (s.settleMuster).line.recessiveSince = s.line.recessiveSince ∧
    (s.settleMuster).line.receive = s.line.receive ∧
    (s.settleMuster).line.transmit = s.line.transmit ∧
    (s.settleMuster).line.role = s.line.role ∧
    (s.settleMuster).line.abortDriven = s.line.abortDriven ∧
    (s.settleMuster).coord.run = s.coord.run ∧
    (s.settleMuster).coord.step = s.coord.step ∧
    (s.settleMuster).coord.source = s.coord.source ∧
    (s.settleMuster).coord.verdict = s.coord.verdict ∧
    (s.settleMuster).coord.results = s.coord.results ∧
    (s.settleMuster).coord.gatherEnd = s.coord.gatherEnd ∧
    (s.settleMuster).coord.waitEnd = s.coord.waitEnd ∧
    (s.settleMuster).coord.deadline = s.coord.deadline ∧
    (s.settleMuster).coord.expired = s.coord.expired ∧
    (s.settleMuster).coord.suspension = s.coord.suspension ∧
    (s.settleMuster).coord.holds = s.coord.holds ∧
    (s.settleMuster).coord.restarts = s.coord.restarts ∧
    (s.settleMuster).coord.runHolds = s.coord.runHolds ∧
    (s.settleMuster).coord.runRestarts = s.coord.runRestarts ∧
    (s.settleMuster).closure = s.closure ∧
    (s.settleMuster).power = s.power ∧
    (s.settleMuster).rstnLow = s.rstnLow ∧
    (s.settleMuster).freeDraws = s.freeDraws ∧
    (s.settleMuster).pending = s.pending := by
  simp only [State.settleMuster]
  (repeat' split) <;> simp

@[simp] theorem State.dropMuster_keeps (s : State) :
    (s.dropMuster).front = s.front ∧
    (s.dropMuster).plan = s.plan ∧
    (s.dropMuster).gate = s.gate ∧
    (s.dropMuster).timed = s.timed ∧
    (s.dropMuster).line.strap = s.line.strap ∧
    (s.dropMuster).line.link = s.line.link ∧
    (s.dropMuster).line.phase = s.line.phase ∧
    (s.dropMuster).line.endSlot = s.line.endSlot ∧
    (s.dropMuster).line.gapEnd = s.line.gapEnd ∧
    (s.dropMuster).line.recessiveSince = s.line.recessiveSince ∧
    (s.dropMuster).line.receive = s.line.receive ∧
    (s.dropMuster).line.transmit = s.line.transmit ∧
    (s.dropMuster).line.role = s.line.role ∧
    (s.dropMuster).line.abortDriven = s.line.abortDriven ∧
    (s.dropMuster).coord.run = s.coord.run ∧
    (s.dropMuster).coord.step = s.coord.step ∧
    (s.dropMuster).coord.source = s.coord.source ∧
    (s.dropMuster).coord.verdict = s.coord.verdict ∧
    (s.dropMuster).coord.results = s.coord.results ∧
    (s.dropMuster).coord.gatherEnd = s.coord.gatherEnd ∧
    (s.dropMuster).coord.waitEnd = s.coord.waitEnd ∧
    (s.dropMuster).coord.deadline = s.coord.deadline ∧
    (s.dropMuster).coord.expired = s.coord.expired ∧
    (s.dropMuster).coord.suspension = s.coord.suspension ∧
    (s.dropMuster).coord.holds = s.coord.holds ∧
    (s.dropMuster).coord.restarts = s.coord.restarts ∧
    (s.dropMuster).coord.runHolds = s.coord.runHolds ∧
    (s.dropMuster).coord.runRestarts = s.coord.runRestarts ∧
    (s.dropMuster).closure = s.closure ∧
    (s.dropMuster).power = s.power ∧
    (s.dropMuster).rstnLow = s.rstnLow ∧
    (s.dropMuster).freeDraws = s.freeDraws ∧
    (s.dropMuster).pending = s.pending := by
  simp only [State.dropMuster]
  (repeat' split) <;> simp

@[simp] theorem State.takeStart_keeps (s : State) (start : StartBit) (groups : Nat) :
    (s.takeStart start groups).front = s.front ∧
    (s.takeStart start groups).plan = s.plan ∧
    (s.takeStart start groups).gate = s.gate ∧
    (s.takeStart start groups).timed = s.timed ∧
    (s.takeStart start groups).coord = s.coord ∧
    (s.takeStart start groups).closure = s.closure ∧
    (s.takeStart start groups).power = s.power ∧
    (s.takeStart start groups).rstnLow = s.rstnLow ∧
    (s.takeStart start groups).freeDraws = s.freeDraws ∧
    (s.takeStart start groups).pending = s.pending := by
  simp only [State.takeStart]
  (repeat' split) <;> simp

@[simp] theorem State.actOnClosing_keeps (s : State) :
    (s.actOnClosing).front.timeBase = s.front.timeBase ∧
    (s.actOnClosing).front.mtp = s.front.mtp ∧
    (s.actOnClosing).front.planSetting = s.front.planSetting ∧
    (s.actOnClosing).front.input = s.front.input ∧
    (s.actOnClosing).front.candidate = s.front.candidate ∧
    (s.actOnClosing).front.releaseTime = s.front.releaseTime ∧
    (s.actOnClosing).front.lastPulse = s.front.lastPulse ∧
    (s.actOnClosing).front.lastPeriod = s.front.lastPeriod ∧
    (s.actOnClosing).front.counter = s.front.counter ∧
    (s.actOnClosing).front.nextEdge = s.front.nextEdge ∧
    (s.actOnClosing).front.loop = s.front.loop ∧
    (s.actOnClosing).plan = s.plan ∧
    (s.actOnClosing).gate = s.gate ∧
    (s.actOnClosing).timed = s.timed ∧
    (s.actOnClosing).line = s.line ∧
    (s.actOnClosing).coord = s.coord ∧
    (s.actOnClosing).closure = s.closure ∧
    (s.actOnClosing).power.clamp = s.power.clamp ∧
    (s.actOnClosing).power.selfTest = s.power.selfTest ∧
    (s.actOnClosing).rstnLow = s.rstnLow ∧
    (s.actOnClosing).freeDraws = s.freeDraws ∧
    (s.actOnClosing).pending = s.pending := by
  simp only [State.actOnClosing]
  (repeat' split) <;> simp

@[simp] theorem State.enrollmentEndedByClamp_keeps (s : State) :
    (s.enrollmentEndedByClamp).front = s.front ∧
    (s.enrollmentEndedByClamp).plan = s.plan ∧
    (s.enrollmentEndedByClamp).gate = s.gate ∧
    (s.enrollmentEndedByClamp).timed = s.timed ∧
    (s.enrollmentEndedByClamp).line.strap = s.line.strap ∧
    (s.enrollmentEndedByClamp).line.link = s.line.link ∧
    (s.enrollmentEndedByClamp).line.phase = s.line.phase ∧
    (s.enrollmentEndedByClamp).line.endSlot = s.line.endSlot ∧
    (s.enrollmentEndedByClamp).line.gapEnd = s.line.gapEnd ∧
    (s.enrollmentEndedByClamp).line.recessiveSince = s.line.recessiveSince ∧
    (s.enrollmentEndedByClamp).line.receive = s.line.receive ∧
    (s.enrollmentEndedByClamp).line.transmit = s.line.transmit ∧
    (s.enrollmentEndedByClamp).line.role = s.line.role ∧
    (s.enrollmentEndedByClamp).line.abortDriven = s.line.abortDriven ∧
    (s.enrollmentEndedByClamp).coord.source = s.coord.source ∧
    (s.enrollmentEndedByClamp).coord.results = s.coord.results ∧
    (s.enrollmentEndedByClamp).coord.gatherEnd = s.coord.gatherEnd ∧
    (s.enrollmentEndedByClamp).coord.waitEnd = s.coord.waitEnd ∧
    (s.enrollmentEndedByClamp).coord.deadline = s.coord.deadline ∧
    (s.enrollmentEndedByClamp).coord.expired = s.coord.expired ∧
    (s.enrollmentEndedByClamp).coord.suspension = s.coord.suspension ∧
    (s.enrollmentEndedByClamp).coord.holds = s.coord.holds ∧
    (s.enrollmentEndedByClamp).coord.restarts = s.coord.restarts ∧
    (s.enrollmentEndedByClamp).coord.runHolds = s.coord.runHolds ∧
    (s.enrollmentEndedByClamp).coord.runRestarts = s.coord.runRestarts ∧
    (s.enrollmentEndedByClamp).closure = s.closure ∧
    (s.enrollmentEndedByClamp).power = s.power ∧
    (s.enrollmentEndedByClamp).rstnLow = s.rstnLow ∧
    (s.enrollmentEndedByClamp).freeDraws = s.freeDraws ∧
    (s.enrollmentEndedByClamp).pending = s.pending := by
  simp only [State.enrollmentEndedByClamp]
  simp

@[simp] theorem State.openHeadFault_keeps (s : State) :
    (s.openHeadFault).front = s.front ∧
    (s.openHeadFault).plan = s.plan ∧
    (s.openHeadFault).gate = s.gate ∧
    (s.openHeadFault).timed = s.timed ∧
    (s.openHeadFault).line = s.line ∧
    (s.openHeadFault).coord = s.coord ∧
    (s.openHeadFault).power.clamp = s.power.clamp ∧
    (s.openHeadFault).power.selfTest = s.power.selfTest ∧
    (s.openHeadFault).rstnLow = s.rstnLow ∧
    (s.openHeadFault).freeDraws = s.freeDraws ∧
    (s.openHeadFault).pending = s.pending := by
  simp only [State.openHeadFault]
  simp

@[simp] theorem State.leaveEnrolled_keeps (s : State) :
    (s.leaveEnrolled).front = s.front ∧
    (s.leaveEnrolled).plan = s.plan ∧
    (s.leaveEnrolled).gate = s.gate ∧
    (s.leaveEnrolled).timed = s.timed ∧
    (s.leaveEnrolled).line = s.line ∧
    (s.leaveEnrolled).coord.source = s.coord.source ∧
    (s.leaveEnrolled).coord.roster = s.coord.roster ∧
    (s.leaveEnrolled).coord.stage = s.coord.stage ∧
    (s.leaveEnrolled).coord.home = s.coord.home ∧
    (s.leaveEnrolled).coord.remembered = s.coord.remembered ∧
    (s.leaveEnrolled).coord.windowEnd = s.coord.windowEnd ∧
    (s.leaveEnrolled).coord.verdict = s.coord.verdict ∧
    (s.leaveEnrolled).coord.results = s.coord.results ∧
    (s.leaveEnrolled).coord.gatherEnd = s.coord.gatherEnd ∧
    (s.leaveEnrolled).coord.waitEnd = s.coord.waitEnd ∧
    (s.leaveEnrolled).coord.deadline = s.coord.deadline ∧
    (s.leaveEnrolled).coord.expired = s.coord.expired ∧
    (s.leaveEnrolled).coord.suspension = s.coord.suspension ∧
    (s.leaveEnrolled).coord.holds = s.coord.holds ∧
    (s.leaveEnrolled).coord.restarts = s.coord.restarts ∧
    (s.leaveEnrolled).coord.runHolds = s.coord.runHolds ∧
    (s.leaveEnrolled).coord.runRestarts = s.coord.runRestarts ∧
    (s.leaveEnrolled).closure = s.closure ∧
    (s.leaveEnrolled).power = s.power ∧
    (s.leaveEnrolled).rstnLow = s.rstnLow ∧
    (s.leaveEnrolled).freeDraws = s.freeDraws ∧
    (s.leaveEnrolled).pending = s.pending := by
  simp only [State.leaveEnrolled]
  (repeat' split) <;> simp

@[simp] theorem State.beginRun_keeps (s : State) (k : StepIx) :
    (s.beginRun k).front = s.front ∧
    (s.beginRun k).plan = s.plan ∧
    (s.beginRun k).gate = s.gate ∧
    (s.beginRun k).timed = s.timed ∧
    (s.beginRun k).line.strap = s.line.strap ∧
    (s.beginRun k).line.link = s.line.link ∧
    (s.beginRun k).line.phase = s.line.phase ∧
    (s.beginRun k).line.endSlot = s.line.endSlot ∧
    (s.beginRun k).line.gapEnd = s.line.gapEnd ∧
    (s.beginRun k).line.recessiveSince = s.line.recessiveSince ∧
    (s.beginRun k).line.receive = s.line.receive ∧
    (s.beginRun k).line.transmit = s.line.transmit ∧
    (s.beginRun k).line.role = s.line.role ∧
    (s.beginRun k).line.abortDriven = s.line.abortDriven ∧
    (s.beginRun k).coord.source = s.coord.source ∧
    (s.beginRun k).coord.stage = s.coord.stage ∧
    (s.beginRun k).coord.remembered = s.coord.remembered ∧
    (s.beginRun k).coord.waitEnd = s.coord.waitEnd ∧
    (s.beginRun k).closure = s.closure ∧
    (s.beginRun k).power = s.power ∧
    (s.beginRun k).rstnLow = s.rstnLow ∧
    (s.beginRun k).freeDraws = s.freeDraws ∧
    (s.beginRun k).pending = s.pending := by
  simp only [State.beginRun]
  simp

@[simp] theorem State.resetAllHere_keeps (s : State) :
    (s.resetAllHere).power.state = s.power.state ∧
    (s.resetAllHere).power.clamp = s.power.clamp ∧
    (s.resetAllHere).power.parkedSince = s.power.parkedSince ∧
    (s.resetAllHere).power.heldClosing = s.power.heldClosing ∧
    (s.resetAllHere).power.wakeStart = s.power.wakeStart ∧
    (s.resetAllHere).power.selfTest = s.power.selfTest ∧
    (s.resetAllHere).power.hdpw = s.power.hdpw ∧
    (s.resetAllHere).rstnLow = s.rstnLow ∧
    (s.resetAllHere).freeDraws = s.freeDraws ∧
    (s.resetAllHere).pending = s.pending := by
  simp only [State.resetAllHere]
  simp

@[simp] theorem State.takeRelease_keeps (s : State) :
    (s.takeRelease).front = s.front ∧
    (s.takeRelease).plan = s.plan ∧
    (s.takeRelease).gate = s.gate ∧
    (s.takeRelease).timed = s.timed ∧
    (s.takeRelease).line = s.line ∧
    (s.takeRelease).coord.source = s.coord.source ∧
    (s.takeRelease).coord.roster = s.coord.roster ∧
    (s.takeRelease).coord.stage = s.coord.stage ∧
    (s.takeRelease).coord.home = s.coord.home ∧
    (s.takeRelease).coord.remembered = s.coord.remembered ∧
    (s.takeRelease).coord.windowEnd = s.coord.windowEnd ∧
    (s.takeRelease).coord.gatherEnd = s.coord.gatherEnd ∧
    (s.takeRelease).coord.waitEnd = s.coord.waitEnd ∧
    (s.takeRelease).coord.deadline = s.coord.deadline ∧
    (s.takeRelease).coord.expired = s.coord.expired ∧
    (s.takeRelease).coord.suspension = s.coord.suspension ∧
    (s.takeRelease).coord.holds = s.coord.holds ∧
    (s.takeRelease).coord.restarts = s.coord.restarts ∧
    (s.takeRelease).coord.runHolds = s.coord.runHolds ∧
    (s.takeRelease).coord.runRestarts = s.coord.runRestarts ∧
    (s.takeRelease).power = s.power ∧
    (s.takeRelease).rstnLow = s.rstnLow ∧
    (s.takeRelease).freeDraws = s.freeDraws ∧
    (s.takeRelease).pending = s.pending := by
  simp only [State.takeRelease]
  (repeat' split) <;> simp

@[simp] theorem State.suspend_keeps (s : State) (k : StepIx) :
    (s.suspend k).front.timeBase = s.front.timeBase ∧
    (s.suspend k).front.mtp = s.front.mtp ∧
    (s.suspend k).front.planSetting = s.front.planSetting ∧
    (s.suspend k).front.input = s.front.input ∧
    (s.suspend k).front.candidate = s.front.candidate ∧
    (s.suspend k).front.releaseTime = s.front.releaseTime ∧
    (s.suspend k).front.lastPulse = s.front.lastPulse ∧
    (s.suspend k).front.lastPeriod = s.front.lastPeriod ∧
    (s.suspend k).front.refSeen = s.front.refSeen ∧
    (s.suspend k).front.loop = s.front.loop ∧
    (s.suspend k).plan = s.plan ∧
    (s.suspend k).line.strap = s.line.strap ∧
    (s.suspend k).line.link = s.line.link ∧
    (s.suspend k).line.phase = s.line.phase ∧
    (s.suspend k).line.endSlot = s.line.endSlot ∧
    (s.suspend k).line.gapEnd = s.line.gapEnd ∧
    (s.suspend k).line.recessiveSince = s.line.recessiveSince ∧
    (s.suspend k).line.receive = s.line.receive ∧
    (s.suspend k).line.transmit = s.line.transmit ∧
    (s.suspend k).line.role = s.line.role ∧
    (s.suspend k).line.abortDriven = s.line.abortDriven ∧
    (s.suspend k).coord.step = s.coord.step ∧
    (s.suspend k).coord.source = s.coord.source ∧
    (s.suspend k).coord.roster = s.coord.roster ∧
    (s.suspend k).coord.stage = s.coord.stage ∧
    (s.suspend k).coord.home = s.coord.home ∧
    (s.suspend k).coord.remembered = s.coord.remembered ∧
    (s.suspend k).coord.windowEnd = s.coord.windowEnd ∧
    (s.suspend k).coord.verdict = s.coord.verdict ∧
    (s.suspend k).coord.gatherEnd = s.coord.gatherEnd ∧
    (s.suspend k).coord.deadline = s.coord.deadline ∧
    (s.suspend k).coord.expired = s.coord.expired ∧
    (s.suspend k).coord.holds = s.coord.holds ∧
    (s.suspend k).coord.restarts = s.coord.restarts ∧
    (s.suspend k).coord.runHolds = s.coord.runHolds ∧
    (s.suspend k).coord.runRestarts = s.coord.runRestarts ∧
    (s.suspend k).closure = s.closure ∧
    (s.suspend k).power = s.power ∧
    (s.suspend k).rstnLow = s.rstnLow ∧
    (s.suspend k).freeDraws = s.freeDraws ∧
    (s.suspend k).pending = s.pending := by
  simp only [State.suspend]
  (repeat' split) <;> simp

@[simp] theorem State.trigger_keeps (s : State) (k : StepIx) :
    (s.trigger k).front.timeBase = s.front.timeBase ∧
    (s.trigger k).front.mtp = s.front.mtp ∧
    (s.trigger k).front.planSetting = s.front.planSetting ∧
    (s.trigger k).front.input = s.front.input ∧
    (s.trigger k).front.candidate = s.front.candidate ∧
    (s.trigger k).front.releaseTime = s.front.releaseTime ∧
    (s.trigger k).front.lastPulse = s.front.lastPulse ∧
    (s.trigger k).front.lastPeriod = s.front.lastPeriod ∧
    (s.trigger k).front.counter = s.front.counter ∧
    (s.trigger k).front.refSeen = s.front.refSeen ∧
    (s.trigger k).front.loop = s.front.loop ∧
    (s.trigger k).plan = s.plan ∧
    (s.trigger k).line.strap = s.line.strap ∧
    (s.trigger k).line.link = s.line.link ∧
    (s.trigger k).line.phase = s.line.phase ∧
    (s.trigger k).line.endSlot = s.line.endSlot ∧
    (s.trigger k).line.gapEnd = s.line.gapEnd ∧
    (s.trigger k).line.recessiveSince = s.line.recessiveSince ∧
    (s.trigger k).line.receive = s.line.receive ∧
    (s.trigger k).line.transmit = s.line.transmit ∧
    (s.trigger k).line.role = s.line.role ∧
    (s.trigger k).line.abortDriven = s.line.abortDriven ∧
    (s.trigger k).coord.step = s.coord.step ∧
    (s.trigger k).coord.source = s.coord.source ∧
    (s.trigger k).coord.roster = s.coord.roster ∧
    (s.trigger k).coord.stage = s.coord.stage ∧
    (s.trigger k).coord.home = s.coord.home ∧
    (s.trigger k).coord.remembered = s.coord.remembered ∧
    (s.trigger k).coord.windowEnd = s.coord.windowEnd ∧
    (s.trigger k).coord.verdict = s.coord.verdict ∧
    (s.trigger k).coord.results = s.coord.results ∧
    (s.trigger k).coord.deadline = s.coord.deadline ∧
    (s.trigger k).coord.expired = s.coord.expired ∧
    (s.trigger k).coord.suspension = s.coord.suspension ∧
    (s.trigger k).coord.holds = s.coord.holds ∧
    (s.trigger k).coord.restarts = s.coord.restarts ∧
    (s.trigger k).coord.runHolds = s.coord.runHolds ∧
    (s.trigger k).coord.runRestarts = s.coord.runRestarts ∧
    (s.trigger k).closure = s.closure ∧
    (s.trigger k).power = s.power ∧
    (s.trigger k).rstnLow = s.rstnLow ∧
    (s.trigger k).freeDraws = s.freeDraws ∧
    (s.trigger k).pending = s.pending := by
  simp only [State.trigger]
  simp

@[simp] theorem State.closeStep_keeps (s : State) :
    (s.closeStep).front.timeBase = s.front.timeBase ∧
    (s.closeStep).front.mtp = s.front.mtp ∧
    (s.closeStep).front.planSetting = s.front.planSetting ∧
    (s.closeStep).front.input = s.front.input ∧
    (s.closeStep).front.candidate = s.front.candidate ∧
    (s.closeStep).front.releaseTime = s.front.releaseTime ∧
    (s.closeStep).front.lastPulse = s.front.lastPulse ∧
    (s.closeStep).front.lastPeriod = s.front.lastPeriod ∧
    (s.closeStep).front.refSeen = s.front.refSeen ∧
    (s.closeStep).front.loop = s.front.loop ∧
    (s.closeStep).plan = s.plan ∧
    (s.closeStep).line.strap = s.line.strap ∧
    (s.closeStep).line.link = s.line.link ∧
    (s.closeStep).line.phase = s.line.phase ∧
    (s.closeStep).line.endSlot = s.line.endSlot ∧
    (s.closeStep).line.gapEnd = s.line.gapEnd ∧
    (s.closeStep).line.recessiveSince = s.line.recessiveSince ∧
    (s.closeStep).line.receive = s.line.receive ∧
    (s.closeStep).line.transmit = s.line.transmit ∧
    (s.closeStep).line.role = s.line.role ∧
    (s.closeStep).line.abortDriven = s.line.abortDriven ∧
    (s.closeStep).coord.run = s.coord.run ∧
    (s.closeStep).coord.step = s.coord.step ∧
    (s.closeStep).coord.source = s.coord.source ∧
    (s.closeStep).coord.roster = s.coord.roster ∧
    (s.closeStep).coord.stage = s.coord.stage ∧
    (s.closeStep).coord.home = s.coord.home ∧
    (s.closeStep).coord.remembered = s.coord.remembered ∧
    (s.closeStep).coord.windowEnd = s.coord.windowEnd ∧
    (s.closeStep).coord.verdict = s.coord.verdict ∧
    (s.closeStep).coord.results = s.coord.results ∧
    (s.closeStep).coord.gatherEnd = s.coord.gatherEnd ∧
    (s.closeStep).coord.runHolds = s.coord.runHolds ∧
    (s.closeStep).coord.runRestarts = s.coord.runRestarts ∧
    (s.closeStep).closure = s.closure ∧
    (s.closeStep).power = s.power ∧
    (s.closeStep).rstnLow = s.rstnLow ∧
    (s.closeStep).freeDraws = s.freeDraws ∧
    (s.closeStep).pending = s.pending := by
  simp only [State.closeStep]
  simp

@[simp] theorem State.startMeasurement_keeps (s : State) (k : StepIx) (r : StepRecord) (t0 : Nat) (quiet : Bool) :
    (s.startMeasurement k r t0 quiet).plan = s.plan ∧
    (s.startMeasurement k r t0 quiet).gate.step = s.gate.step ∧
    (s.startMeasurement k r t0 quiet).gate.settings = s.gate.settings ∧
    (s.startMeasurement k r t0 quiet).gate.n = s.gate.n ∧
    (s.startMeasurement k r t0 quiet).gate.error = s.gate.error ∧
    (s.startMeasurement k r t0 quiet).timed.step = s.timed.step ∧
    (s.startMeasurement k r t0 quiet).timed.settings = s.timed.settings ∧
    (s.startMeasurement k r t0 quiet).line.strap = s.line.strap ∧
    (s.startMeasurement k r t0 quiet).line.link = s.line.link ∧
    (s.startMeasurement k r t0 quiet).line.phase = s.line.phase ∧
    (s.startMeasurement k r t0 quiet).line.endSlot = s.line.endSlot ∧
    (s.startMeasurement k r t0 quiet).line.gapEnd = s.line.gapEnd ∧
    (s.startMeasurement k r t0 quiet).line.recessiveSince = s.line.recessiveSince ∧
    (s.startMeasurement k r t0 quiet).line.receive = s.line.receive ∧
    (s.startMeasurement k r t0 quiet).line.transmit = s.line.transmit ∧
    (s.startMeasurement k r t0 quiet).line.role = s.line.role ∧
    (s.startMeasurement k r t0 quiet).line.abortDriven = s.line.abortDriven ∧
    (s.startMeasurement k r t0 quiet).coord.run = s.coord.run ∧
    (s.startMeasurement k r t0 quiet).coord.step = s.coord.step ∧
    (s.startMeasurement k r t0 quiet).coord.source = s.coord.source ∧
    (s.startMeasurement k r t0 quiet).coord.roster = s.coord.roster ∧
    (s.startMeasurement k r t0 quiet).coord.stage = s.coord.stage ∧
    (s.startMeasurement k r t0 quiet).coord.home = s.coord.home ∧
    (s.startMeasurement k r t0 quiet).coord.remembered = s.coord.remembered ∧
    (s.startMeasurement k r t0 quiet).coord.windowEnd = s.coord.windowEnd ∧
    (s.startMeasurement k r t0 quiet).coord.verdict = s.coord.verdict ∧
    (s.startMeasurement k r t0 quiet).coord.gatherEnd = s.coord.gatherEnd ∧
    (s.startMeasurement k r t0 quiet).coord.waitEnd = s.coord.waitEnd ∧
    (s.startMeasurement k r t0 quiet).coord.deadline = s.coord.deadline ∧
    (s.startMeasurement k r t0 quiet).coord.expired = s.coord.expired ∧
    (s.startMeasurement k r t0 quiet).coord.suspension = s.coord.suspension ∧
    (s.startMeasurement k r t0 quiet).coord.holds = s.coord.holds ∧
    (s.startMeasurement k r t0 quiet).coord.restarts = s.coord.restarts ∧
    (s.startMeasurement k r t0 quiet).coord.runHolds = s.coord.runHolds ∧
    (s.startMeasurement k r t0 quiet).coord.runRestarts = s.coord.runRestarts ∧
    (s.startMeasurement k r t0 quiet).closure = s.closure ∧
    (s.startMeasurement k r t0 quiet).power = s.power ∧
    (s.startMeasurement k r t0 quiet).rstnLow = s.rstnLow ∧
    (s.startMeasurement k r t0 quiet).freeDraws = s.freeDraws ∧
    (s.startMeasurement k r t0 quiet).pending = s.pending := by
  simp only [State.startMeasurement]
  simp

@[simp] theorem State.stopRun_keeps (s : State) :
    (s.stopRun).front.timeBase = s.front.timeBase ∧
    (s.stopRun).front.mtp = s.front.mtp ∧
    (s.stopRun).front.planSetting = s.front.planSetting ∧
    (s.stopRun).front.input = s.front.input ∧
    (s.stopRun).front.candidate = s.front.candidate ∧
    (s.stopRun).front.releaseTime = s.front.releaseTime ∧
    (s.stopRun).front.lastPulse = s.front.lastPulse ∧
    (s.stopRun).front.lastPeriod = s.front.lastPeriod ∧
    (s.stopRun).front.refSeen = s.front.refSeen ∧
    (s.stopRun).front.loop = s.front.loop ∧
    (s.stopRun).plan = s.plan ∧
    (s.stopRun).line.strap = s.line.strap ∧
    (s.stopRun).line.link = s.line.link ∧
    (s.stopRun).line.phase = s.line.phase ∧
    (s.stopRun).line.endSlot = s.line.endSlot ∧
    (s.stopRun).line.gapEnd = s.line.gapEnd ∧
    (s.stopRun).line.recessiveSince = s.line.recessiveSince ∧
    (s.stopRun).line.receive = s.line.receive ∧
    (s.stopRun).line.transmit = s.line.transmit ∧
    (s.stopRun).line.role = s.line.role ∧
    (s.stopRun).line.abortDriven = s.line.abortDriven ∧
    (s.stopRun).coord.run = s.coord.run ∧
    (s.stopRun).coord.step = s.coord.step ∧
    (s.stopRun).coord.source = s.coord.source ∧
    (s.stopRun).coord.roster = s.coord.roster ∧
    (s.stopRun).coord.stage = s.coord.stage ∧
    (s.stopRun).coord.home = s.coord.home ∧
    (s.stopRun).coord.remembered = s.coord.remembered ∧
    (s.stopRun).coord.windowEnd = s.coord.windowEnd ∧
    (s.stopRun).coord.verdict = s.coord.verdict ∧
    (s.stopRun).coord.results = s.coord.results ∧
    (s.stopRun).coord.runHolds = s.coord.runHolds ∧
    (s.stopRun).coord.runRestarts = s.coord.runRestarts ∧
    (s.stopRun).closure = s.closure ∧
    (s.stopRun).power = s.power ∧
    (s.stopRun).rstnLow = s.rstnLow ∧
    (s.stopRun).freeDraws = s.freeDraws ∧
    (s.stopRun).pending = s.pending := by
  simp only [State.stopRun]
  simp

@[simp] theorem State.restartStep_keeps (s : State) :
    (s.restartStep).front.timeBase = s.front.timeBase ∧
    (s.restartStep).front.mtp = s.front.mtp ∧
    (s.restartStep).front.planSetting = s.front.planSetting ∧
    (s.restartStep).front.input = s.front.input ∧
    (s.restartStep).front.candidate = s.front.candidate ∧
    (s.restartStep).front.releaseTime = s.front.releaseTime ∧
    (s.restartStep).front.lastPulse = s.front.lastPulse ∧
    (s.restartStep).front.lastPeriod = s.front.lastPeriod ∧
    (s.restartStep).front.counter = s.front.counter ∧
    (s.restartStep).front.refSeen = s.front.refSeen ∧
    (s.restartStep).front.loop = s.front.loop ∧
    (s.restartStep).plan = s.plan ∧
    (s.restartStep).gate.state = s.gate.state ∧
    (s.restartStep).gate.step = s.gate.step ∧
    (s.restartStep).gate.settings = s.gate.settings ∧
    (s.restartStep).gate.n = s.gate.n ∧
    (s.restartStep).gate.error = s.gate.error ∧
    (s.restartStep).timed = s.timed ∧
    (s.restartStep).line.strap = s.line.strap ∧
    (s.restartStep).line.link = s.line.link ∧
    (s.restartStep).line.phase = s.line.phase ∧
    (s.restartStep).line.endSlot = s.line.endSlot ∧
    (s.restartStep).line.gapEnd = s.line.gapEnd ∧
    (s.restartStep).line.recessiveSince = s.line.recessiveSince ∧
    (s.restartStep).line.receive = s.line.receive ∧
    (s.restartStep).line.transmit = s.line.transmit ∧
    (s.restartStep).line.role = s.line.role ∧
    (s.restartStep).line.abortDriven = s.line.abortDriven ∧
    (s.restartStep).coord.step = s.coord.step ∧
    (s.restartStep).coord.source = s.coord.source ∧
    (s.restartStep).coord.roster = s.coord.roster ∧
    (s.restartStep).coord.stage = s.coord.stage ∧
    (s.restartStep).coord.home = s.coord.home ∧
    (s.restartStep).coord.remembered = s.coord.remembered ∧
    (s.restartStep).coord.windowEnd = s.coord.windowEnd ∧
    (s.restartStep).coord.verdict = s.coord.verdict ∧
    (s.restartStep).coord.results = s.coord.results ∧
    (s.restartStep).coord.gatherEnd = s.coord.gatherEnd ∧
    (s.restartStep).coord.runHolds = s.coord.runHolds ∧
    (s.restartStep).closure = s.closure ∧
    (s.restartStep).power = s.power ∧
    (s.restartStep).rstnLow = s.rstnLow ∧
    (s.restartStep).freeDraws = s.freeDraws ∧
    (s.restartStep).pending = s.pending := by
  simp only [State.restartStep]
  simp

@[simp] theorem State.countGate_keeps (s : State) (k : StepIx) (g : GateSettings) (n stamp : Nat) (period : Option Nat) :
    (s.countGate k g n stamp period).front.timeBase = s.front.timeBase ∧
    (s.countGate k g n stamp period).front.mtp = s.front.mtp ∧
    (s.countGate k g n stamp period).front.planSetting = s.front.planSetting ∧
    (s.countGate k g n stamp period).front.input = s.front.input ∧
    (s.countGate k g n stamp period).front.candidate = s.front.candidate ∧
    (s.countGate k g n stamp period).front.releaseTime = s.front.releaseTime ∧
    (s.countGate k g n stamp period).front.lastPulse = s.front.lastPulse ∧
    (s.countGate k g n stamp period).front.lastPeriod = s.front.lastPeriod ∧
    (s.countGate k g n stamp period).front.nextEdge = s.front.nextEdge ∧
    (s.countGate k g n stamp period).front.refSeen = s.front.refSeen ∧
    (s.countGate k g n stamp period).front.loop = s.front.loop ∧
    (s.countGate k g n stamp period).plan = s.plan ∧
    (s.countGate k g n stamp period).timed = s.timed ∧
    (s.countGate k g n stamp period).line.strap = s.line.strap ∧
    (s.countGate k g n stamp period).line.link = s.line.link ∧
    (s.countGate k g n stamp period).line.phase = s.line.phase ∧
    (s.countGate k g n stamp period).line.endSlot = s.line.endSlot ∧
    (s.countGate k g n stamp period).line.gapEnd = s.line.gapEnd ∧
    (s.countGate k g n stamp period).line.recessiveSince = s.line.recessiveSince ∧
    (s.countGate k g n stamp period).line.receive = s.line.receive ∧
    (s.countGate k g n stamp period).line.transmit = s.line.transmit ∧
    (s.countGate k g n stamp period).line.role = s.line.role ∧
    (s.countGate k g n stamp period).line.abortDriven = s.line.abortDriven ∧
    (s.countGate k g n stamp period).coord.run = s.coord.run ∧
    (s.countGate k g n stamp period).coord.step = s.coord.step ∧
    (s.countGate k g n stamp period).coord.source = s.coord.source ∧
    (s.countGate k g n stamp period).coord.roster = s.coord.roster ∧
    (s.countGate k g n stamp period).coord.stage = s.coord.stage ∧
    (s.countGate k g n stamp period).coord.home = s.coord.home ∧
    (s.countGate k g n stamp period).coord.remembered = s.coord.remembered ∧
    (s.countGate k g n stamp period).coord.windowEnd = s.coord.windowEnd ∧
    (s.countGate k g n stamp period).coord.verdict = s.coord.verdict ∧
    (s.countGate k g n stamp period).coord.gatherEnd = s.coord.gatherEnd ∧
    (s.countGate k g n stamp period).coord.waitEnd = s.coord.waitEnd ∧
    (s.countGate k g n stamp period).coord.deadline = s.coord.deadline ∧
    (s.countGate k g n stamp period).coord.expired = s.coord.expired ∧
    (s.countGate k g n stamp period).coord.suspension = s.coord.suspension ∧
    (s.countGate k g n stamp period).coord.holds = s.coord.holds ∧
    (s.countGate k g n stamp period).coord.restarts = s.coord.restarts ∧
    (s.countGate k g n stamp period).coord.runHolds = s.coord.runHolds ∧
    (s.countGate k g n stamp period).coord.runRestarts = s.coord.runRestarts ∧
    (s.countGate k g n stamp period).closure = s.closure ∧
    (s.countGate k g n stamp period).power = s.power ∧
    (s.countGate k g n stamp period).rstnLow = s.rstnLow ∧
    (s.countGate k g n stamp period).freeDraws = s.freeDraws ∧
    (s.countGate k g n stamp period).pending = s.pending := by
  simp only [State.countGate]
  (repeat' split) <;> simp

@[simp] theorem State.countTimed_keeps (s : State) (k : StepIx) (x : TimedSettings) (count stamp : Nat) :
    (s.countTimed k x count stamp).front = s.front ∧
    (s.countTimed k x count stamp).plan = s.plan ∧
    (s.countTimed k x count stamp).gate = s.gate ∧
    (s.countTimed k x count stamp).timed.step = s.timed.step ∧
    (s.countTimed k x count stamp).timed.settings = s.timed.settings ∧
    (s.countTimed k x count stamp).line.strap = s.line.strap ∧
    (s.countTimed k x count stamp).line.link = s.line.link ∧
    (s.countTimed k x count stamp).line.phase = s.line.phase ∧
    (s.countTimed k x count stamp).line.endSlot = s.line.endSlot ∧
    (s.countTimed k x count stamp).line.gapEnd = s.line.gapEnd ∧
    (s.countTimed k x count stamp).line.recessiveSince = s.line.recessiveSince ∧
    (s.countTimed k x count stamp).line.receive = s.line.receive ∧
    (s.countTimed k x count stamp).line.transmit = s.line.transmit ∧
    (s.countTimed k x count stamp).line.role = s.line.role ∧
    (s.countTimed k x count stamp).line.abortDriven = s.line.abortDriven ∧
    (s.countTimed k x count stamp).coord.run = s.coord.run ∧
    (s.countTimed k x count stamp).coord.step = s.coord.step ∧
    (s.countTimed k x count stamp).coord.source = s.coord.source ∧
    (s.countTimed k x count stamp).coord.roster = s.coord.roster ∧
    (s.countTimed k x count stamp).coord.stage = s.coord.stage ∧
    (s.countTimed k x count stamp).coord.home = s.coord.home ∧
    (s.countTimed k x count stamp).coord.remembered = s.coord.remembered ∧
    (s.countTimed k x count stamp).coord.windowEnd = s.coord.windowEnd ∧
    (s.countTimed k x count stamp).coord.verdict = s.coord.verdict ∧
    (s.countTimed k x count stamp).coord.gatherEnd = s.coord.gatherEnd ∧
    (s.countTimed k x count stamp).coord.waitEnd = s.coord.waitEnd ∧
    (s.countTimed k x count stamp).coord.deadline = s.coord.deadline ∧
    (s.countTimed k x count stamp).coord.expired = s.coord.expired ∧
    (s.countTimed k x count stamp).coord.suspension = s.coord.suspension ∧
    (s.countTimed k x count stamp).coord.holds = s.coord.holds ∧
    (s.countTimed k x count stamp).coord.restarts = s.coord.restarts ∧
    (s.countTimed k x count stamp).coord.runHolds = s.coord.runHolds ∧
    (s.countTimed k x count stamp).coord.runRestarts = s.coord.runRestarts ∧
    (s.countTimed k x count stamp).closure = s.closure ∧
    (s.countTimed k x count stamp).power = s.power ∧
    (s.countTimed k x count stamp).rstnLow = s.rstnLow ∧
    (s.countTimed k x count stamp).freeDraws = s.freeDraws ∧
    (s.countTimed k x count stamp).pending = s.pending := by
  simp only [State.countTimed]
  (repeat' split) <;> simp

@[simp] theorem State.reachDuration_keeps (s : State) :
    (s.reachDuration).front = s.front ∧
    (s.reachDuration).plan = s.plan ∧
    (s.reachDuration).gate = s.gate ∧
    (s.reachDuration).line.strap = s.line.strap ∧
    (s.reachDuration).line.link = s.line.link ∧
    (s.reachDuration).line.phase = s.line.phase ∧
    (s.reachDuration).line.endSlot = s.line.endSlot ∧
    (s.reachDuration).line.gapEnd = s.line.gapEnd ∧
    (s.reachDuration).line.recessiveSince = s.line.recessiveSince ∧
    (s.reachDuration).line.receive = s.line.receive ∧
    (s.reachDuration).line.transmit = s.line.transmit ∧
    (s.reachDuration).line.role = s.line.role ∧
    (s.reachDuration).line.abortDriven = s.line.abortDriven ∧
    (s.reachDuration).coord.run = s.coord.run ∧
    (s.reachDuration).coord.step = s.coord.step ∧
    (s.reachDuration).coord.source = s.coord.source ∧
    (s.reachDuration).coord.roster = s.coord.roster ∧
    (s.reachDuration).coord.stage = s.coord.stage ∧
    (s.reachDuration).coord.home = s.coord.home ∧
    (s.reachDuration).coord.remembered = s.coord.remembered ∧
    (s.reachDuration).coord.windowEnd = s.coord.windowEnd ∧
    (s.reachDuration).coord.verdict = s.coord.verdict ∧
    (s.reachDuration).coord.gatherEnd = s.coord.gatherEnd ∧
    (s.reachDuration).coord.waitEnd = s.coord.waitEnd ∧
    (s.reachDuration).coord.deadline = s.coord.deadline ∧
    (s.reachDuration).coord.expired = s.coord.expired ∧
    (s.reachDuration).coord.suspension = s.coord.suspension ∧
    (s.reachDuration).coord.holds = s.coord.holds ∧
    (s.reachDuration).coord.restarts = s.coord.restarts ∧
    (s.reachDuration).coord.runHolds = s.coord.runHolds ∧
    (s.reachDuration).coord.runRestarts = s.coord.runRestarts ∧
    (s.reachDuration).closure = s.closure ∧
    (s.reachDuration).power = s.power ∧
    (s.reachDuration).rstnLow = s.rstnLow ∧
    (s.reachDuration).freeDraws = s.freeDraws ∧
    (s.reachDuration).pending = s.pending := by
  simp only [State.reachDuration]
  (repeat' split) <;> simp

@[simp] theorem State.wake_keeps (s : State) :
    (s.wake).front = s.front ∧
    (s.wake).plan = s.plan ∧
    (s.wake).gate = s.gate ∧
    (s.wake).timed = s.timed ∧
    (s.wake).line.strap = s.line.strap ∧
    (s.wake).line.link = s.line.link ∧
    (s.wake).line.phase = s.line.phase ∧
    (s.wake).line.endSlot = s.line.endSlot ∧
    (s.wake).line.gapEnd = s.line.gapEnd ∧
    (s.wake).line.recessiveSince = s.line.recessiveSince ∧
    (s.wake).line.receive = s.line.receive ∧
    (s.wake).line.transmit = s.line.transmit ∧
    (s.wake).line.role = s.line.role ∧
    (s.wake).line.abortDriven = s.line.abortDriven ∧
    (s.wake).coord.run = s.coord.run ∧
    (s.wake).coord.step = s.coord.step ∧
    (s.wake).coord.source = s.coord.source ∧
    (s.wake).coord.verdict = s.coord.verdict ∧
    (s.wake).coord.results = s.coord.results ∧
    (s.wake).coord.gatherEnd = s.coord.gatherEnd ∧
    (s.wake).coord.waitEnd = s.coord.waitEnd ∧
    (s.wake).coord.deadline = s.coord.deadline ∧
    (s.wake).coord.expired = s.coord.expired ∧
    (s.wake).coord.suspension = s.coord.suspension ∧
    (s.wake).coord.holds = s.coord.holds ∧
    (s.wake).coord.restarts = s.coord.restarts ∧
    (s.wake).coord.runHolds = s.coord.runHolds ∧
    (s.wake).coord.runRestarts = s.coord.runRestarts ∧
    (s.wake).closure.record = s.closure.record ∧
    (s.wake).closure.press = s.closure.press ∧
    (s.wake).power.clamp = s.power.clamp ∧
    (s.wake).power.parkedSince = s.power.parkedSince ∧
    (s.wake).power.heldClosing = s.power.heldClosing ∧
    (s.wake).power.selfTest = s.power.selfTest ∧
    (s.wake).power.hdpw = s.power.hdpw ∧
    (s.wake).rstnLow = s.rstnLow ∧
    (s.wake).freeDraws = s.freeDraws ∧
    (s.wake).pending = s.pending := by
  simp only [State.wake]
  simp

@[simp] theorem State.faultHead_keeps (s : State) :
    (s.faultHead).front = s.front ∧
    (s.faultHead).plan = s.plan ∧
    (s.faultHead).gate = s.gate ∧
    (s.faultHead).timed = s.timed ∧
    (s.faultHead).line.strap = s.line.strap ∧
    (s.faultHead).line.link = s.line.link ∧
    (s.faultHead).line.phase = s.line.phase ∧
    (s.faultHead).line.endSlot = s.line.endSlot ∧
    (s.faultHead).line.gapEnd = s.line.gapEnd ∧
    (s.faultHead).line.recessiveSince = s.line.recessiveSince ∧
    (s.faultHead).line.receive = s.line.receive ∧
    (s.faultHead).line.transmit = s.line.transmit ∧
    (s.faultHead).line.role = s.line.role ∧
    (s.faultHead).line.abortDriven = s.line.abortDriven ∧
    (s.faultHead).coord.run = s.coord.run ∧
    (s.faultHead).coord.step = s.coord.step ∧
    (s.faultHead).coord.source = s.coord.source ∧
    (s.faultHead).coord.verdict = s.coord.verdict ∧
    (s.faultHead).coord.results = s.coord.results ∧
    (s.faultHead).coord.gatherEnd = s.coord.gatherEnd ∧
    (s.faultHead).coord.waitEnd = s.coord.waitEnd ∧
    (s.faultHead).coord.deadline = s.coord.deadline ∧
    (s.faultHead).coord.expired = s.coord.expired ∧
    (s.faultHead).coord.suspension = s.coord.suspension ∧
    (s.faultHead).coord.holds = s.coord.holds ∧
    (s.faultHead).coord.restarts = s.coord.restarts ∧
    (s.faultHead).coord.runHolds = s.coord.runHolds ∧
    (s.faultHead).coord.runRestarts = s.coord.runRestarts ∧
    (s.faultHead).closure.record = s.closure.record ∧
    (s.faultHead).closure.press = s.closure.press ∧
    (s.faultHead).power.clamp = s.power.clamp ∧
    (s.faultHead).power.parkedSince = s.power.parkedSince ∧
    (s.faultHead).power.heldClosing = s.power.heldClosing ∧
    (s.faultHead).power.selfTest = s.power.selfTest ∧
    (s.faultHead).rstnLow = s.rstnLow ∧
    (s.faultHead).freeDraws = s.freeDraws ∧
    (s.faultHead).pending = s.pending := by
  simp only [State.faultHead]
  simp

@[simp] theorem State.failAttempt_keeps (s : State) (f : StationFrame) :
    (s.failAttempt f).front = s.front ∧
    (s.failAttempt f).plan = s.plan ∧
    (s.failAttempt f).gate = s.gate ∧
    (s.failAttempt f).timed = s.timed ∧
    (s.failAttempt f).coord = s.coord ∧
    (s.failAttempt f).closure = s.closure ∧
    (s.failAttempt f).power = s.power ∧
    (s.failAttempt f).rstnLow = s.rstnLow ∧
    (s.failAttempt f).freeDraws = s.freeDraws ∧
    (s.failAttempt f).pending = s.pending := by
  simp only [State.failAttempt]
  (repeat' split) <;> simp

@[simp] theorem State.foreignOwn_keeps (s : State) :
    (s.foreignOwn).front = s.front ∧
    (s.foreignOwn).plan = s.plan ∧
    (s.foreignOwn).gate = s.gate ∧
    (s.foreignOwn).timed = s.timed ∧
    (s.foreignOwn).coord = s.coord ∧
    (s.foreignOwn).closure = s.closure ∧
    (s.foreignOwn).power = s.power ∧
    (s.foreignOwn).rstnLow = s.rstnLow ∧
    (s.foreignOwn).freeDraws = s.freeDraws ∧
    (s.foreignOwn).pending = s.pending := by
  simp only [State.foreignOwn]
  (repeat' split) <;> simp

@[simp] theorem State.clampCloses_keeps (s : State) :
    (s.clampCloses).front.timeBase = s.front.timeBase ∧
    (s.clampCloses).front.mtp = s.front.mtp ∧
    (s.clampCloses).front.planSetting = s.front.planSetting ∧
    (s.clampCloses).front.input = s.front.input ∧
    (s.clampCloses).front.candidate = s.front.candidate ∧
    (s.clampCloses).front.releaseTime = s.front.releaseTime ∧
    (s.clampCloses).front.lastPulse = s.front.lastPulse ∧
    (s.clampCloses).front.lastPeriod = s.front.lastPeriod ∧
    (s.clampCloses).front.counter = s.front.counter ∧
    (s.clampCloses).front.nextEdge = s.front.nextEdge ∧
    (s.clampCloses).front.loop = s.front.loop ∧
    (s.clampCloses).plan = s.plan ∧
    (s.clampCloses).gate = s.gate ∧
    (s.clampCloses).timed = s.timed ∧
    (s.clampCloses).line = s.line ∧
    (s.clampCloses).coord = s.coord ∧
    (s.clampCloses).closure = s.closure ∧
    (s.clampCloses).power.selfTest = s.power.selfTest ∧
    (s.clampCloses).rstnLow = s.rstnLow ∧
    (s.clampCloses).freeDraws = s.freeDraws ∧
    (s.clampCloses).pending = s.pending := by
  simp only [State.clampCloses]
  (repeat' split) <;> simp

@[simp] theorem State.openWaking_keeps (s : State) :
    (s.openWaking).plan = s.plan ∧
    (s.openWaking).gate = s.gate ∧
    (s.openWaking).timed = s.timed ∧
    (s.openWaking).line.strap = s.line.strap ∧
    (s.openWaking).line.link = s.line.link ∧
    (s.openWaking).line.phase = s.line.phase ∧
    (s.openWaking).line.endSlot = s.line.endSlot ∧
    (s.openWaking).line.gapEnd = s.line.gapEnd ∧
    (s.openWaking).line.recessiveSince = s.line.recessiveSince ∧
    (s.openWaking).line.receive = s.line.receive ∧
    (s.openWaking).line.transmit = s.line.transmit ∧
    (s.openWaking).line.role = s.line.role ∧
    (s.openWaking).line.abortDriven = s.line.abortDriven ∧
    (s.openWaking).coord.run = s.coord.run ∧
    (s.openWaking).coord.step = s.coord.step ∧
    (s.openWaking).coord.source = s.coord.source ∧
    (s.openWaking).coord.verdict = s.coord.verdict ∧
    (s.openWaking).coord.results = s.coord.results ∧
    (s.openWaking).coord.gatherEnd = s.coord.gatherEnd ∧
    (s.openWaking).coord.waitEnd = s.coord.waitEnd ∧
    (s.openWaking).coord.deadline = s.coord.deadline ∧
    (s.openWaking).coord.expired = s.coord.expired ∧
    (s.openWaking).coord.suspension = s.coord.suspension ∧
    (s.openWaking).coord.holds = s.coord.holds ∧
    (s.openWaking).coord.restarts = s.coord.restarts ∧
    (s.openWaking).coord.runHolds = s.coord.runHolds ∧
    (s.openWaking).coord.runRestarts = s.coord.runRestarts ∧
    (s.openWaking).power.clamp = s.power.clamp ∧
    (s.openWaking).power.selfTest = s.power.selfTest ∧
    (s.openWaking).rstnLow = s.rstnLow ∧
    (s.openWaking).freeDraws = s.freeDraws ∧
    (s.openWaking).pending = s.pending := by
  simp only [State.openWaking]
  simp

@[simp] theorem State.applyPlan_keeps (s : State) (x : PlanPayload) :
    (s.applyPlan x).gate = s.gate ∧
    (s.applyPlan x).timed = s.timed ∧
    (s.applyPlan x).line.strap = s.line.strap ∧
    (s.applyPlan x).line.link = s.line.link ∧
    (s.applyPlan x).line.phase = s.line.phase ∧
    (s.applyPlan x).line.endSlot = s.line.endSlot ∧
    (s.applyPlan x).line.gapEnd = s.line.gapEnd ∧
    (s.applyPlan x).line.recessiveSince = s.line.recessiveSince ∧
    (s.applyPlan x).line.receive = s.line.receive ∧
    (s.applyPlan x).line.transmit = s.line.transmit ∧
    (s.applyPlan x).line.role = s.line.role ∧
    (s.applyPlan x).line.abortDriven = s.line.abortDriven ∧
    (s.applyPlan x).coord.source = s.coord.source ∧
    (s.applyPlan x).coord.gatherEnd = s.coord.gatherEnd ∧
    (s.applyPlan x).coord.waitEnd = s.coord.waitEnd ∧
    (s.applyPlan x).coord.deadline = s.coord.deadline ∧
    (s.applyPlan x).coord.expired = s.coord.expired ∧
    (s.applyPlan x).coord.suspension = s.coord.suspension ∧
    (s.applyPlan x).coord.holds = s.coord.holds ∧
    (s.applyPlan x).coord.restarts = s.coord.restarts ∧
    (s.applyPlan x).coord.runHolds = s.coord.runHolds ∧
    (s.applyPlan x).coord.runRestarts = s.coord.runRestarts ∧
    (s.applyPlan x).closure = s.closure ∧
    (s.applyPlan x).power.state = s.power.state ∧
    (s.applyPlan x).power.clamp = s.power.clamp ∧
    (s.applyPlan x).power.parkedSince = s.power.parkedSince ∧
    (s.applyPlan x).power.heldClosing = s.power.heldClosing ∧
    (s.applyPlan x).power.wakeStart = s.power.wakeStart ∧
    (s.applyPlan x).power.selfTest = s.power.selfTest ∧
    (s.applyPlan x).power.hdpw = s.power.hdpw ∧
    (s.applyPlan x).rstnLow = s.rstnLow ∧
    (s.applyPlan x).freeDraws = s.freeDraws ∧
    (s.applyPlan x).pending = s.pending := by
  simp only [State.applyPlan]
  simp

@[simp] theorem State.fillSlot_keeps (s : State) (k : StepIx) (r : StepRecord) :
    (s.fillSlot k r).front = s.front ∧
    (s.fillSlot k r).plan.number = s.plan.number ∧
    (s.fillSlot k r).plan.fields = s.plan.fields ∧
    (s.fillSlot k r).gate = s.gate ∧
    (s.fillSlot k r).timed = s.timed ∧
    (s.fillSlot k r).line.strap = s.line.strap ∧
    (s.fillSlot k r).line.link = s.line.link ∧
    (s.fillSlot k r).line.phase = s.line.phase ∧
    (s.fillSlot k r).line.endSlot = s.line.endSlot ∧
    (s.fillSlot k r).line.gapEnd = s.line.gapEnd ∧
    (s.fillSlot k r).line.recessiveSince = s.line.recessiveSince ∧
    (s.fillSlot k r).line.receive = s.line.receive ∧
    (s.fillSlot k r).line.transmit = s.line.transmit ∧
    (s.fillSlot k r).line.role = s.line.role ∧
    (s.fillSlot k r).line.abortDriven = s.line.abortDriven ∧
    (s.fillSlot k r).coord.source = s.coord.source ∧
    (s.fillSlot k r).coord.verdict = s.coord.verdict ∧
    (s.fillSlot k r).coord.gatherEnd = s.coord.gatherEnd ∧
    (s.fillSlot k r).coord.waitEnd = s.coord.waitEnd ∧
    (s.fillSlot k r).coord.deadline = s.coord.deadline ∧
    (s.fillSlot k r).coord.expired = s.coord.expired ∧
    (s.fillSlot k r).coord.suspension = s.coord.suspension ∧
    (s.fillSlot k r).coord.holds = s.coord.holds ∧
    (s.fillSlot k r).coord.restarts = s.coord.restarts ∧
    (s.fillSlot k r).coord.runHolds = s.coord.runHolds ∧
    (s.fillSlot k r).coord.runRestarts = s.coord.runRestarts ∧
    (s.fillSlot k r).closure = s.closure ∧
    (s.fillSlot k r).power = s.power ∧
    (s.fillSlot k r).rstnLow = s.rstnLow ∧
    (s.fillSlot k r).freeDraws = s.freeDraws ∧
    (s.fillSlot k r).pending = s.pending := by
  simp only [State.fillSlot]
  simp

@[simp] theorem State.enroll_keeps (s : State) (plan : BitVec 16) :
    (s.enroll plan).front = s.front ∧
    (s.enroll plan).plan = s.plan ∧
    (s.enroll plan).gate = s.gate ∧
    (s.enroll plan).timed = s.timed ∧
    (s.enroll plan).line.strap = s.line.strap ∧
    (s.enroll plan).line.link = s.line.link ∧
    (s.enroll plan).line.phase = s.line.phase ∧
    (s.enroll plan).line.endSlot = s.line.endSlot ∧
    (s.enroll plan).line.gapEnd = s.line.gapEnd ∧
    (s.enroll plan).line.recessiveSince = s.line.recessiveSince ∧
    (s.enroll plan).line.receive = s.line.receive ∧
    (s.enroll plan).line.transmit = s.line.transmit ∧
    (s.enroll plan).line.role = s.line.role ∧
    (s.enroll plan).line.abortDriven = s.line.abortDriven ∧
    (s.enroll plan).coord.source = s.coord.source ∧
    (s.enroll plan).coord.remembered = s.coord.remembered ∧
    (s.enroll plan).coord.verdict = s.coord.verdict ∧
    (s.enroll plan).coord.results = s.coord.results ∧
    (s.enroll plan).coord.gatherEnd = s.coord.gatherEnd ∧
    (s.enroll plan).coord.waitEnd = s.coord.waitEnd ∧
    (s.enroll plan).coord.deadline = s.coord.deadline ∧
    (s.enroll plan).coord.expired = s.coord.expired ∧
    (s.enroll plan).coord.suspension = s.coord.suspension ∧
    (s.enroll plan).coord.holds = s.coord.holds ∧
    (s.enroll plan).coord.restarts = s.coord.restarts ∧
    (s.enroll plan).coord.runHolds = s.coord.runHolds ∧
    (s.enroll plan).coord.runRestarts = s.coord.runRestarts ∧
    (s.enroll plan).closure = s.closure ∧
    (s.enroll plan).power = s.power ∧
    (s.enroll plan).rstnLow = s.rstnLow ∧
    (s.enroll plan).freeDraws = s.freeDraws ∧
    (s.enroll plan).pending = s.pending := by
  simp only [State.enroll]
  simp

@[simp] theorem State.runEnrolled_keeps (s : State) (plan : BitVec 16) (first : BitVec 5) :
    (s.runEnrolled plan first).front = s.front ∧
    (s.runEnrolled plan first).plan = s.plan ∧
    (s.runEnrolled plan first).gate = s.gate ∧
    (s.runEnrolled plan first).timed = s.timed ∧
    (s.runEnrolled plan first).line.strap = s.line.strap ∧
    (s.runEnrolled plan first).line.link = s.line.link ∧
    (s.runEnrolled plan first).line.phase = s.line.phase ∧
    (s.runEnrolled plan first).line.endSlot = s.line.endSlot ∧
    (s.runEnrolled plan first).line.gapEnd = s.line.gapEnd ∧
    (s.runEnrolled plan first).line.recessiveSince = s.line.recessiveSince ∧
    (s.runEnrolled plan first).line.receive = s.line.receive ∧
    (s.runEnrolled plan first).line.transmit = s.line.transmit ∧
    (s.runEnrolled plan first).line.role = s.line.role ∧
    (s.runEnrolled plan first).line.abortDriven = s.line.abortDriven ∧
    (s.runEnrolled plan first).coord.source = s.coord.source ∧
    (s.runEnrolled plan first).coord.stage = s.coord.stage ∧
    (s.runEnrolled plan first).coord.remembered = s.coord.remembered ∧
    (s.runEnrolled plan first).coord.waitEnd = s.coord.waitEnd ∧
    (s.runEnrolled plan first).closure = s.closure ∧
    (s.runEnrolled plan first).power = s.power ∧
    (s.runEnrolled plan first).rstnLow = s.rstnLow ∧
    (s.runEnrolled plan first).freeDraws = s.freeDraws ∧
    (s.runEnrolled plan first).pending = s.pending := by
  simp only [State.runEnrolled]
  (repeat' split) <;> simp

@[simp] theorem State.closeRun_keeps (s : State) :
    (s.closeRun).front = s.front ∧
    (s.closeRun).plan = s.plan ∧
    (s.closeRun).gate = s.gate ∧
    (s.closeRun).timed = s.timed ∧
    (s.closeRun).line.strap = s.line.strap ∧
    (s.closeRun).line.link = s.line.link ∧
    (s.closeRun).line.phase = s.line.phase ∧
    (s.closeRun).line.endSlot = s.line.endSlot ∧
    (s.closeRun).line.gapEnd = s.line.gapEnd ∧
    (s.closeRun).line.recessiveSince = s.line.recessiveSince ∧
    (s.closeRun).line.receive = s.line.receive ∧
    (s.closeRun).line.transmit = s.line.transmit ∧
    (s.closeRun).line.role = s.line.role ∧
    (s.closeRun).line.abortDriven = s.line.abortDriven ∧
    (s.closeRun).coord.step = s.coord.step ∧
    (s.closeRun).coord.source = s.coord.source ∧
    (s.closeRun).coord.results = s.coord.results ∧
    (s.closeRun).coord.gatherEnd = s.coord.gatherEnd ∧
    (s.closeRun).coord.waitEnd = s.coord.waitEnd ∧
    (s.closeRun).coord.deadline = s.coord.deadline ∧
    (s.closeRun).coord.expired = s.coord.expired ∧
    (s.closeRun).coord.suspension = s.coord.suspension ∧
    (s.closeRun).coord.holds = s.coord.holds ∧
    (s.closeRun).coord.restarts = s.coord.restarts ∧
    (s.closeRun).coord.runHolds = s.coord.runHolds ∧
    (s.closeRun).coord.runRestarts = s.coord.runRestarts ∧
    (s.closeRun).power = s.power ∧
    (s.closeRun).rstnLow = s.rstnLow ∧
    (s.closeRun).freeDraws = s.freeDraws ∧
    (s.closeRun).pending = s.pending := by
  simp only [State.closeRun]
  (repeat' split) <;> simp

@[simp] theorem State.countHold_keeps (s : State) (r : StepRecord) :
    (s.countHold r).front = s.front ∧
    (s.countHold r).plan = s.plan ∧
    (s.countHold r).gate.state = s.gate.state ∧
    (s.countHold r).gate.step = s.gate.step ∧
    (s.countHold r).gate.settings = s.gate.settings ∧
    (s.countHold r).gate.n = s.gate.n ∧
    (s.countHold r).gate.error = s.gate.error ∧
    (s.countHold r).timed = s.timed ∧
    (s.countHold r).line.strap = s.line.strap ∧
    (s.countHold r).line.link = s.line.link ∧
    (s.countHold r).line.phase = s.line.phase ∧
    (s.countHold r).line.endSlot = s.line.endSlot ∧
    (s.countHold r).line.gapEnd = s.line.gapEnd ∧
    (s.countHold r).line.recessiveSince = s.line.recessiveSince ∧
    (s.countHold r).line.receive = s.line.receive ∧
    (s.countHold r).line.transmit = s.line.transmit ∧
    (s.countHold r).line.role = s.line.role ∧
    (s.countHold r).line.abortDriven = s.line.abortDriven ∧
    (s.countHold r).coord.run = s.coord.run ∧
    (s.countHold r).coord.step = s.coord.step ∧
    (s.countHold r).coord.source = s.coord.source ∧
    (s.countHold r).coord.roster = s.coord.roster ∧
    (s.countHold r).coord.stage = s.coord.stage ∧
    (s.countHold r).coord.home = s.coord.home ∧
    (s.countHold r).coord.remembered = s.coord.remembered ∧
    (s.countHold r).coord.windowEnd = s.coord.windowEnd ∧
    (s.countHold r).coord.verdict = s.coord.verdict ∧
    (s.countHold r).coord.results = s.coord.results ∧
    (s.countHold r).coord.gatherEnd = s.coord.gatherEnd ∧
    (s.countHold r).coord.waitEnd = s.coord.waitEnd ∧
    (s.countHold r).coord.suspension = s.coord.suspension ∧
    (s.countHold r).coord.restarts = s.coord.restarts ∧
    (s.countHold r).coord.runRestarts = s.coord.runRestarts ∧
    (s.countHold r).closure = s.closure ∧
    (s.countHold r).power = s.power ∧
    (s.countHold r).rstnLow = s.rstnLow ∧
    (s.countHold r).freeDraws = s.freeDraws ∧
    (s.countHold r).pending = s.pending := by
  simp only [State.countHold]
  (repeat' split) <;> simp

@[simp] theorem State.triggerTest_keeps (s : State) :
    (s.triggerTest).front.timeBase = s.front.timeBase ∧
    (s.triggerTest).front.mtp = s.front.mtp ∧
    (s.triggerTest).front.planSetting = s.front.planSetting ∧
    (s.triggerTest).front.input = s.front.input ∧
    (s.triggerTest).front.candidate = s.front.candidate ∧
    (s.triggerTest).front.releaseTime = s.front.releaseTime ∧
    (s.triggerTest).front.lastPulse = s.front.lastPulse ∧
    (s.triggerTest).front.lastPeriod = s.front.lastPeriod ∧
    (s.triggerTest).front.counter = s.front.counter ∧
    (s.triggerTest).front.refSeen = s.front.refSeen ∧
    (s.triggerTest).front.loop = s.front.loop ∧
    (s.triggerTest).plan = s.plan ∧
    (s.triggerTest).line.strap = s.line.strap ∧
    (s.triggerTest).line.link = s.line.link ∧
    (s.triggerTest).line.phase = s.line.phase ∧
    (s.triggerTest).line.endSlot = s.line.endSlot ∧
    (s.triggerTest).line.gapEnd = s.line.gapEnd ∧
    (s.triggerTest).line.recessiveSince = s.line.recessiveSince ∧
    (s.triggerTest).line.receive = s.line.receive ∧
    (s.triggerTest).line.transmit = s.line.transmit ∧
    (s.triggerTest).line.role = s.line.role ∧
    (s.triggerTest).line.abortDriven = s.line.abortDriven ∧
    (s.triggerTest).coord.step = s.coord.step ∧
    (s.triggerTest).coord.source = s.coord.source ∧
    (s.triggerTest).coord.roster = s.coord.roster ∧
    (s.triggerTest).coord.stage = s.coord.stage ∧
    (s.triggerTest).coord.home = s.coord.home ∧
    (s.triggerTest).coord.remembered = s.coord.remembered ∧
    (s.triggerTest).coord.windowEnd = s.coord.windowEnd ∧
    (s.triggerTest).coord.verdict = s.coord.verdict ∧
    (s.triggerTest).coord.results = s.coord.results ∧
    (s.triggerTest).coord.deadline = s.coord.deadline ∧
    (s.triggerTest).coord.expired = s.coord.expired ∧
    (s.triggerTest).coord.suspension = s.coord.suspension ∧
    (s.triggerTest).coord.holds = s.coord.holds ∧
    (s.triggerTest).coord.restarts = s.coord.restarts ∧
    (s.triggerTest).coord.runHolds = s.coord.runHolds ∧
    (s.triggerTest).coord.runRestarts = s.coord.runRestarts ∧
    (s.triggerTest).closure = s.closure ∧
    (s.triggerTest).power = s.power ∧
    (s.triggerTest).rstnLow = s.rstnLow ∧
    (s.triggerTest).freeDraws = s.freeDraws ∧
    (s.triggerTest).pending = s.pending := by
  simp only [State.triggerTest]
  (repeat' split) <;> simp

@[simp] theorem State.completeStep_keeps (s : State) (k : StepIx) :
    (s.completeStep k).front.timeBase = s.front.timeBase ∧
    (s.completeStep k).front.mtp = s.front.mtp ∧
    (s.completeStep k).front.planSetting = s.front.planSetting ∧
    (s.completeStep k).front.input = s.front.input ∧
    (s.completeStep k).front.candidate = s.front.candidate ∧
    (s.completeStep k).front.releaseTime = s.front.releaseTime ∧
    (s.completeStep k).front.lastPulse = s.front.lastPulse ∧
    (s.completeStep k).front.lastPeriod = s.front.lastPeriod ∧
    (s.completeStep k).front.refSeen = s.front.refSeen ∧
    (s.completeStep k).front.loop = s.front.loop ∧
    (s.completeStep k).plan = s.plan ∧
    (s.completeStep k).line.strap = s.line.strap ∧
    (s.completeStep k).line.link = s.line.link ∧
    (s.completeStep k).line.phase = s.line.phase ∧
    (s.completeStep k).line.endSlot = s.line.endSlot ∧
    (s.completeStep k).line.gapEnd = s.line.gapEnd ∧
    (s.completeStep k).line.recessiveSince = s.line.recessiveSince ∧
    (s.completeStep k).line.receive = s.line.receive ∧
    (s.completeStep k).line.transmit = s.line.transmit ∧
    (s.completeStep k).line.role = s.line.role ∧
    (s.completeStep k).line.abortDriven = s.line.abortDriven ∧
    (s.completeStep k).coord.source = s.coord.source ∧
    (s.completeStep k).coord.stage = s.coord.stage ∧
    (s.completeStep k).coord.home = s.coord.home ∧
    (s.completeStep k).coord.remembered = s.coord.remembered ∧
    (s.completeStep k).coord.windowEnd = s.coord.windowEnd ∧
    (s.completeStep k).coord.results = s.coord.results ∧
    (s.completeStep k).coord.runHolds = s.coord.runHolds ∧
    (s.completeStep k).coord.runRestarts = s.coord.runRestarts ∧
    (s.completeStep k).closure = s.closure ∧
    (s.completeStep k).power = s.power ∧
    (s.completeStep k).rstnLow = s.rstnLow ∧
    (s.completeStep k).freeDraws = s.freeDraws ∧
    (s.completeStep k).pending = s.pending := by
  simp only [State.completeStep]
  simp

@[simp] theorem State.startStep_keeps (s : State) (k : StepIx) (r : StepRecord) (t0 : Nat) (quiet : Bool) :
    (s.startStep k r t0 quiet).plan = s.plan ∧
    (s.startStep k r t0 quiet).gate.step = s.gate.step ∧
    (s.startStep k r t0 quiet).gate.settings = s.gate.settings ∧
    (s.startStep k r t0 quiet).gate.n = s.gate.n ∧
    (s.startStep k r t0 quiet).gate.error = s.gate.error ∧
    (s.startStep k r t0 quiet).timed.step = s.timed.step ∧
    (s.startStep k r t0 quiet).timed.settings = s.timed.settings ∧
    (s.startStep k r t0 quiet).line.strap = s.line.strap ∧
    (s.startStep k r t0 quiet).line.link = s.line.link ∧
    (s.startStep k r t0 quiet).line.phase = s.line.phase ∧
    (s.startStep k r t0 quiet).line.endSlot = s.line.endSlot ∧
    (s.startStep k r t0 quiet).line.gapEnd = s.line.gapEnd ∧
    (s.startStep k r t0 quiet).line.recessiveSince = s.line.recessiveSince ∧
    (s.startStep k r t0 quiet).line.receive = s.line.receive ∧
    (s.startStep k r t0 quiet).line.transmit = s.line.transmit ∧
    (s.startStep k r t0 quiet).line.role = s.line.role ∧
    (s.startStep k r t0 quiet).line.abortDriven = s.line.abortDriven ∧
    (s.startStep k r t0 quiet).coord.run = s.coord.run ∧
    (s.startStep k r t0 quiet).coord.step = s.coord.step ∧
    (s.startStep k r t0 quiet).coord.source = s.coord.source ∧
    (s.startStep k r t0 quiet).coord.roster = s.coord.roster ∧
    (s.startStep k r t0 quiet).coord.stage = s.coord.stage ∧
    (s.startStep k r t0 quiet).coord.home = s.coord.home ∧
    (s.startStep k r t0 quiet).coord.remembered = s.coord.remembered ∧
    (s.startStep k r t0 quiet).coord.windowEnd = s.coord.windowEnd ∧
    (s.startStep k r t0 quiet).coord.verdict = s.coord.verdict ∧
    (s.startStep k r t0 quiet).coord.gatherEnd = s.coord.gatherEnd ∧
    (s.startStep k r t0 quiet).coord.waitEnd = s.coord.waitEnd ∧
    (s.startStep k r t0 quiet).coord.suspension = s.coord.suspension ∧
    (s.startStep k r t0 quiet).coord.holds = s.coord.holds ∧
    (s.startStep k r t0 quiet).coord.restarts = s.coord.restarts ∧
    (s.startStep k r t0 quiet).coord.runHolds = s.coord.runHolds ∧
    (s.startStep k r t0 quiet).coord.runRestarts = s.coord.runRestarts ∧
    (s.startStep k r t0 quiet).closure = s.closure ∧
    (s.startStep k r t0 quiet).power = s.power ∧
    (s.startStep k r t0 quiet).rstnLow = s.rstnLow ∧
    (s.startStep k r t0 quiet).freeDraws = s.freeDraws ∧
    (s.startStep k r t0 quiet).pending = s.pending := by
  simp only [State.startStep]
  (repeat' split) <;> simp

@[simp] theorem State.haltRun_keeps (s : State) (k : StepIx) :
    (s.haltRun k).front.timeBase = s.front.timeBase ∧
    (s.haltRun k).front.mtp = s.front.mtp ∧
    (s.haltRun k).front.planSetting = s.front.planSetting ∧
    (s.haltRun k).front.input = s.front.input ∧
    (s.haltRun k).front.candidate = s.front.candidate ∧
    (s.haltRun k).front.releaseTime = s.front.releaseTime ∧
    (s.haltRun k).front.lastPulse = s.front.lastPulse ∧
    (s.haltRun k).front.lastPeriod = s.front.lastPeriod ∧
    (s.haltRun k).front.refSeen = s.front.refSeen ∧
    (s.haltRun k).front.loop = s.front.loop ∧
    (s.haltRun k).plan = s.plan ∧
    (s.haltRun k).line.strap = s.line.strap ∧
    (s.haltRun k).line.link = s.line.link ∧
    (s.haltRun k).line.phase = s.line.phase ∧
    (s.haltRun k).line.endSlot = s.line.endSlot ∧
    (s.haltRun k).line.gapEnd = s.line.gapEnd ∧
    (s.haltRun k).line.recessiveSince = s.line.recessiveSince ∧
    (s.haltRun k).line.receive = s.line.receive ∧
    (s.haltRun k).line.transmit = s.line.transmit ∧
    (s.haltRun k).line.role = s.line.role ∧
    (s.haltRun k).line.abortDriven = s.line.abortDriven ∧
    (s.haltRun k).coord.source = s.coord.source ∧
    (s.haltRun k).coord.stage = s.coord.stage ∧
    (s.haltRun k).coord.home = s.coord.home ∧
    (s.haltRun k).coord.remembered = s.coord.remembered ∧
    (s.haltRun k).coord.windowEnd = s.coord.windowEnd ∧
    (s.haltRun k).coord.runHolds = s.coord.runHolds ∧
    (s.haltRun k).coord.runRestarts = s.coord.runRestarts ∧
    (s.haltRun k).closure = s.closure ∧
    (s.haltRun k).power = s.power ∧
    (s.haltRun k).rstnLow = s.rstnLow ∧
    (s.haltRun k).freeDraws = s.freeDraws ∧
    (s.haltRun k).pending = s.pending := by
  simp only [State.haltRun]
  simp

@[simp] theorem State.clampEndsRun_keeps (s : State) (k : StepIx) :
    (s.clampEndsRun k).front.timeBase = s.front.timeBase ∧
    (s.clampEndsRun k).front.mtp = s.front.mtp ∧
    (s.clampEndsRun k).front.planSetting = s.front.planSetting ∧
    (s.clampEndsRun k).front.input = s.front.input ∧
    (s.clampEndsRun k).front.candidate = s.front.candidate ∧
    (s.clampEndsRun k).front.releaseTime = s.front.releaseTime ∧
    (s.clampEndsRun k).front.lastPulse = s.front.lastPulse ∧
    (s.clampEndsRun k).front.lastPeriod = s.front.lastPeriod ∧
    (s.clampEndsRun k).front.refSeen = s.front.refSeen ∧
    (s.clampEndsRun k).front.loop = s.front.loop ∧
    (s.clampEndsRun k).plan = s.plan ∧
    (s.clampEndsRun k).line.strap = s.line.strap ∧
    (s.clampEndsRun k).line.link = s.line.link ∧
    (s.clampEndsRun k).line.phase = s.line.phase ∧
    (s.clampEndsRun k).line.endSlot = s.line.endSlot ∧
    (s.clampEndsRun k).line.gapEnd = s.line.gapEnd ∧
    (s.clampEndsRun k).line.recessiveSince = s.line.recessiveSince ∧
    (s.clampEndsRun k).line.receive = s.line.receive ∧
    (s.clampEndsRun k).line.transmit = s.line.transmit ∧
    (s.clampEndsRun k).line.role = s.line.role ∧
    (s.clampEndsRun k).line.abortDriven = s.line.abortDriven ∧
    (s.clampEndsRun k).coord.source = s.coord.source ∧
    (s.clampEndsRun k).coord.roster = s.coord.roster ∧
    (s.clampEndsRun k).coord.stage = s.coord.stage ∧
    (s.clampEndsRun k).coord.home = s.coord.home ∧
    (s.clampEndsRun k).coord.remembered = s.coord.remembered ∧
    (s.clampEndsRun k).coord.windowEnd = s.coord.windowEnd ∧
    (s.clampEndsRun k).coord.runHolds = s.coord.runHolds ∧
    (s.clampEndsRun k).coord.runRestarts = s.coord.runRestarts ∧
    (s.clampEndsRun k).closure = s.closure ∧
    (s.clampEndsRun k).power = s.power ∧
    (s.clampEndsRun k).rstnLow = s.rstnLow ∧
    (s.clampEndsRun k).freeDraws = s.freeDraws ∧
    (s.clampEndsRun k).pending = s.pending := by
  simp only [State.clampEndsRun]
  simp

@[simp] theorem State.gatePulse_keeps (s : State) (stamp : Nat) (period : Option Nat) :
    (s.gatePulse stamp period).front.timeBase = s.front.timeBase ∧
    (s.gatePulse stamp period).front.mtp = s.front.mtp ∧
    (s.gatePulse stamp period).front.planSetting = s.front.planSetting ∧
    (s.gatePulse stamp period).front.input = s.front.input ∧
    (s.gatePulse stamp period).front.candidate = s.front.candidate ∧
    (s.gatePulse stamp period).front.releaseTime = s.front.releaseTime ∧
    (s.gatePulse stamp period).front.lastPulse = s.front.lastPulse ∧
    (s.gatePulse stamp period).front.lastPeriod = s.front.lastPeriod ∧
    (s.gatePulse stamp period).front.nextEdge = s.front.nextEdge ∧
    (s.gatePulse stamp period).front.refSeen = s.front.refSeen ∧
    (s.gatePulse stamp period).front.loop = s.front.loop ∧
    (s.gatePulse stamp period).plan = s.plan ∧
    (s.gatePulse stamp period).timed = s.timed ∧
    (s.gatePulse stamp period).line.strap = s.line.strap ∧
    (s.gatePulse stamp period).line.link = s.line.link ∧
    (s.gatePulse stamp period).line.phase = s.line.phase ∧
    (s.gatePulse stamp period).line.endSlot = s.line.endSlot ∧
    (s.gatePulse stamp period).line.gapEnd = s.line.gapEnd ∧
    (s.gatePulse stamp period).line.recessiveSince = s.line.recessiveSince ∧
    (s.gatePulse stamp period).line.receive = s.line.receive ∧
    (s.gatePulse stamp period).line.transmit = s.line.transmit ∧
    (s.gatePulse stamp period).line.role = s.line.role ∧
    (s.gatePulse stamp period).line.abortDriven = s.line.abortDriven ∧
    (s.gatePulse stamp period).coord.run = s.coord.run ∧
    (s.gatePulse stamp period).coord.step = s.coord.step ∧
    (s.gatePulse stamp period).coord.source = s.coord.source ∧
    (s.gatePulse stamp period).coord.roster = s.coord.roster ∧
    (s.gatePulse stamp period).coord.stage = s.coord.stage ∧
    (s.gatePulse stamp period).coord.home = s.coord.home ∧
    (s.gatePulse stamp period).coord.remembered = s.coord.remembered ∧
    (s.gatePulse stamp period).coord.windowEnd = s.coord.windowEnd ∧
    (s.gatePulse stamp period).coord.verdict = s.coord.verdict ∧
    (s.gatePulse stamp period).coord.gatherEnd = s.coord.gatherEnd ∧
    (s.gatePulse stamp period).coord.waitEnd = s.coord.waitEnd ∧
    (s.gatePulse stamp period).coord.deadline = s.coord.deadline ∧
    (s.gatePulse stamp period).coord.expired = s.coord.expired ∧
    (s.gatePulse stamp period).coord.suspension = s.coord.suspension ∧
    (s.gatePulse stamp period).coord.holds = s.coord.holds ∧
    (s.gatePulse stamp period).coord.restarts = s.coord.restarts ∧
    (s.gatePulse stamp period).coord.runHolds = s.coord.runHolds ∧
    (s.gatePulse stamp period).coord.runRestarts = s.coord.runRestarts ∧
    (s.gatePulse stamp period).closure = s.closure ∧
    (s.gatePulse stamp period).power = s.power ∧
    (s.gatePulse stamp period).rstnLow = s.rstnLow ∧
    (s.gatePulse stamp period).freeDraws = s.freeDraws ∧
    (s.gatePulse stamp period).pending = s.pending := by
  simp only [State.gatePulse]
  (repeat' split) <;> simp

@[simp] theorem State.timedPulse_keeps (s : State) (stamp : Nat) :
    (s.timedPulse stamp).front = s.front ∧
    (s.timedPulse stamp).plan = s.plan ∧
    (s.timedPulse stamp).gate = s.gate ∧
    (s.timedPulse stamp).timed.step = s.timed.step ∧
    (s.timedPulse stamp).timed.settings = s.timed.settings ∧
    (s.timedPulse stamp).line.strap = s.line.strap ∧
    (s.timedPulse stamp).line.link = s.line.link ∧
    (s.timedPulse stamp).line.phase = s.line.phase ∧
    (s.timedPulse stamp).line.endSlot = s.line.endSlot ∧
    (s.timedPulse stamp).line.gapEnd = s.line.gapEnd ∧
    (s.timedPulse stamp).line.recessiveSince = s.line.recessiveSince ∧
    (s.timedPulse stamp).line.receive = s.line.receive ∧
    (s.timedPulse stamp).line.transmit = s.line.transmit ∧
    (s.timedPulse stamp).line.role = s.line.role ∧
    (s.timedPulse stamp).line.abortDriven = s.line.abortDriven ∧
    (s.timedPulse stamp).coord.run = s.coord.run ∧
    (s.timedPulse stamp).coord.step = s.coord.step ∧
    (s.timedPulse stamp).coord.source = s.coord.source ∧
    (s.timedPulse stamp).coord.roster = s.coord.roster ∧
    (s.timedPulse stamp).coord.stage = s.coord.stage ∧
    (s.timedPulse stamp).coord.home = s.coord.home ∧
    (s.timedPulse stamp).coord.remembered = s.coord.remembered ∧
    (s.timedPulse stamp).coord.windowEnd = s.coord.windowEnd ∧
    (s.timedPulse stamp).coord.verdict = s.coord.verdict ∧
    (s.timedPulse stamp).coord.gatherEnd = s.coord.gatherEnd ∧
    (s.timedPulse stamp).coord.waitEnd = s.coord.waitEnd ∧
    (s.timedPulse stamp).coord.deadline = s.coord.deadline ∧
    (s.timedPulse stamp).coord.expired = s.coord.expired ∧
    (s.timedPulse stamp).coord.suspension = s.coord.suspension ∧
    (s.timedPulse stamp).coord.holds = s.coord.holds ∧
    (s.timedPulse stamp).coord.restarts = s.coord.restarts ∧
    (s.timedPulse stamp).coord.runHolds = s.coord.runHolds ∧
    (s.timedPulse stamp).coord.runRestarts = s.coord.runRestarts ∧
    (s.timedPulse stamp).closure = s.closure ∧
    (s.timedPulse stamp).power = s.power ∧
    (s.timedPulse stamp).rstnLow = s.rstnLow ∧
    (s.timedPulse stamp).freeDraws = s.freeDraws ∧
    (s.timedPulse stamp).pending = s.pending := by
  simp only [State.timedPulse]
  (repeat' split) <;> simp

@[simp] theorem State.judgeSelfTest_keeps (s : State) (t : Tally) :
    (s.judgeSelfTest t).front = s.front ∧
    (s.judgeSelfTest t).plan = s.plan ∧
    (s.judgeSelfTest t).gate = s.gate ∧
    (s.judgeSelfTest t).timed = s.timed ∧
    (s.judgeSelfTest t).line.strap = s.line.strap ∧
    (s.judgeSelfTest t).line.link = s.line.link ∧
    (s.judgeSelfTest t).line.phase = s.line.phase ∧
    (s.judgeSelfTest t).line.endSlot = s.line.endSlot ∧
    (s.judgeSelfTest t).line.gapEnd = s.line.gapEnd ∧
    (s.judgeSelfTest t).line.recessiveSince = s.line.recessiveSince ∧
    (s.judgeSelfTest t).line.receive = s.line.receive ∧
    (s.judgeSelfTest t).line.transmit = s.line.transmit ∧
    (s.judgeSelfTest t).line.role = s.line.role ∧
    (s.judgeSelfTest t).line.abortDriven = s.line.abortDriven ∧
    (s.judgeSelfTest t).coord.run = s.coord.run ∧
    (s.judgeSelfTest t).coord.step = s.coord.step ∧
    (s.judgeSelfTest t).coord.source = s.coord.source ∧
    (s.judgeSelfTest t).coord.verdict = s.coord.verdict ∧
    (s.judgeSelfTest t).coord.results = s.coord.results ∧
    (s.judgeSelfTest t).coord.gatherEnd = s.coord.gatherEnd ∧
    (s.judgeSelfTest t).coord.waitEnd = s.coord.waitEnd ∧
    (s.judgeSelfTest t).coord.deadline = s.coord.deadline ∧
    (s.judgeSelfTest t).coord.expired = s.coord.expired ∧
    (s.judgeSelfTest t).coord.suspension = s.coord.suspension ∧
    (s.judgeSelfTest t).coord.holds = s.coord.holds ∧
    (s.judgeSelfTest t).coord.restarts = s.coord.restarts ∧
    (s.judgeSelfTest t).coord.runHolds = s.coord.runHolds ∧
    (s.judgeSelfTest t).coord.runRestarts = s.coord.runRestarts ∧
    (s.judgeSelfTest t).closure.record = s.closure.record ∧
    (s.judgeSelfTest t).closure.press = s.closure.press ∧
    (s.judgeSelfTest t).power.clamp = s.power.clamp ∧
    (s.judgeSelfTest t).power.parkedSince = s.power.parkedSince ∧
    (s.judgeSelfTest t).power.heldClosing = s.power.heldClosing ∧
    (s.judgeSelfTest t).rstnLow = s.rstnLow ∧
    (s.judgeSelfTest t).freeDraws = s.freeDraws ∧
    (s.judgeSelfTest t).pending = s.pending := by
  simp only [State.judgeSelfTest]
  (repeat' split) <;> simp

@[simp] theorem State.failOwnAttempt_keeps (s : State) :
    (s.failOwnAttempt).front = s.front ∧
    (s.failOwnAttempt).plan = s.plan ∧
    (s.failOwnAttempt).gate = s.gate ∧
    (s.failOwnAttempt).timed = s.timed ∧
    (s.failOwnAttempt).coord = s.coord ∧
    (s.failOwnAttempt).closure = s.closure ∧
    (s.failOwnAttempt).power = s.power ∧
    (s.failOwnAttempt).rstnLow = s.rstnLow ∧
    (s.failOwnAttempt).freeDraws = s.freeDraws ∧
    (s.failOwnAttempt).pending = s.pending := by
  simp only [State.failOwnAttempt]
  (repeat' split) <;> simp

@[simp] theorem State.takePlan_keeps (s : State) (x : PlanPayload) :
    (s.takePlan x).gate = s.gate ∧
    (s.takePlan x).timed = s.timed ∧
    (s.takePlan x).line.strap = s.line.strap ∧
    (s.takePlan x).line.link = s.line.link ∧
    (s.takePlan x).line.phase = s.line.phase ∧
    (s.takePlan x).line.endSlot = s.line.endSlot ∧
    (s.takePlan x).line.gapEnd = s.line.gapEnd ∧
    (s.takePlan x).line.recessiveSince = s.line.recessiveSince ∧
    (s.takePlan x).line.receive = s.line.receive ∧
    (s.takePlan x).line.transmit = s.line.transmit ∧
    (s.takePlan x).line.role = s.line.role ∧
    (s.takePlan x).line.abortDriven = s.line.abortDriven ∧
    (s.takePlan x).coord.source = s.coord.source ∧
    (s.takePlan x).coord.gatherEnd = s.coord.gatherEnd ∧
    (s.takePlan x).coord.waitEnd = s.coord.waitEnd ∧
    (s.takePlan x).coord.deadline = s.coord.deadline ∧
    (s.takePlan x).coord.expired = s.coord.expired ∧
    (s.takePlan x).coord.suspension = s.coord.suspension ∧
    (s.takePlan x).coord.holds = s.coord.holds ∧
    (s.takePlan x).coord.restarts = s.coord.restarts ∧
    (s.takePlan x).coord.runHolds = s.coord.runHolds ∧
    (s.takePlan x).coord.runRestarts = s.coord.runRestarts ∧
    (s.takePlan x).closure = s.closure ∧
    (s.takePlan x).power.state = s.power.state ∧
    (s.takePlan x).power.clamp = s.power.clamp ∧
    (s.takePlan x).power.parkedSince = s.power.parkedSince ∧
    (s.takePlan x).power.heldClosing = s.power.heldClosing ∧
    (s.takePlan x).power.wakeStart = s.power.wakeStart ∧
    (s.takePlan x).power.selfTest = s.power.selfTest ∧
    (s.takePlan x).power.hdpw = s.power.hdpw ∧
    (s.takePlan x).rstnLow = s.rstnLow ∧
    (s.takePlan x).freeDraws = s.freeDraws ∧
    (s.takePlan x).pending = s.pending := by
  simp only [State.takePlan]
  (repeat' split) <;> simp

@[simp] theorem State.admitStep_keeps (s : State) (x : StepPayload) :
    (s.admitStep x).front = s.front ∧
    (s.admitStep x).plan.number = s.plan.number ∧
    (s.admitStep x).plan.fields = s.plan.fields ∧
    (s.admitStep x).gate = s.gate ∧
    (s.admitStep x).timed = s.timed ∧
    (s.admitStep x).line.strap = s.line.strap ∧
    (s.admitStep x).line.link = s.line.link ∧
    (s.admitStep x).line.phase = s.line.phase ∧
    (s.admitStep x).line.endSlot = s.line.endSlot ∧
    (s.admitStep x).line.gapEnd = s.line.gapEnd ∧
    (s.admitStep x).line.recessiveSince = s.line.recessiveSince ∧
    (s.admitStep x).line.receive = s.line.receive ∧
    (s.admitStep x).line.transmit = s.line.transmit ∧
    (s.admitStep x).line.role = s.line.role ∧
    (s.admitStep x).line.abortDriven = s.line.abortDriven ∧
    (s.admitStep x).coord.source = s.coord.source ∧
    (s.admitStep x).coord.verdict = s.coord.verdict ∧
    (s.admitStep x).coord.gatherEnd = s.coord.gatherEnd ∧
    (s.admitStep x).coord.waitEnd = s.coord.waitEnd ∧
    (s.admitStep x).coord.deadline = s.coord.deadline ∧
    (s.admitStep x).coord.expired = s.coord.expired ∧
    (s.admitStep x).coord.suspension = s.coord.suspension ∧
    (s.admitStep x).coord.holds = s.coord.holds ∧
    (s.admitStep x).coord.restarts = s.coord.restarts ∧
    (s.admitStep x).coord.runHolds = s.coord.runHolds ∧
    (s.admitStep x).coord.runRestarts = s.coord.runRestarts ∧
    (s.admitStep x).closure = s.closure ∧
    (s.admitStep x).power = s.power ∧
    (s.admitStep x).rstnLow = s.rstnLow ∧
    (s.admitStep x).freeDraws = s.freeDraws ∧
    (s.admitStep x).pending = s.pending := by
  simp only [State.admitStep]
  (repeat' split) <;> simp

@[simp] theorem State.takeMuster_keeps (s : State) (plan : BitVec 16) (count : BitVec 5) :
    (s.takeMuster plan count).front = s.front ∧
    (s.takeMuster plan count).plan = s.plan ∧
    (s.takeMuster plan count).gate = s.gate ∧
    (s.takeMuster plan count).timed = s.timed ∧
    (s.takeMuster plan count).line.strap = s.line.strap ∧
    (s.takeMuster plan count).line.link = s.line.link ∧
    (s.takeMuster plan count).line.phase = s.line.phase ∧
    (s.takeMuster plan count).line.endSlot = s.line.endSlot ∧
    (s.takeMuster plan count).line.gapEnd = s.line.gapEnd ∧
    (s.takeMuster plan count).line.recessiveSince = s.line.recessiveSince ∧
    (s.takeMuster plan count).line.receive = s.line.receive ∧
    (s.takeMuster plan count).line.transmit = s.line.transmit ∧
    (s.takeMuster plan count).line.role = s.line.role ∧
    (s.takeMuster plan count).line.abortDriven = s.line.abortDriven ∧
    (s.takeMuster plan count).coord.source = s.coord.source ∧
    (s.takeMuster plan count).coord.verdict = s.coord.verdict ∧
    (s.takeMuster plan count).coord.results = s.coord.results ∧
    (s.takeMuster plan count).coord.gatherEnd = s.coord.gatherEnd ∧
    (s.takeMuster plan count).coord.waitEnd = s.coord.waitEnd ∧
    (s.takeMuster plan count).coord.deadline = s.coord.deadline ∧
    (s.takeMuster plan count).coord.expired = s.coord.expired ∧
    (s.takeMuster plan count).coord.suspension = s.coord.suspension ∧
    (s.takeMuster plan count).coord.holds = s.coord.holds ∧
    (s.takeMuster plan count).coord.restarts = s.coord.restarts ∧
    (s.takeMuster plan count).coord.runHolds = s.coord.runHolds ∧
    (s.takeMuster plan count).coord.runRestarts = s.coord.runRestarts ∧
    (s.takeMuster plan count).closure = s.closure ∧
    (s.takeMuster plan count).power = s.power ∧
    (s.takeMuster plan count).rstnLow = s.rstnLow ∧
    (s.takeMuster plan count).freeDraws = s.freeDraws ∧
    (s.takeMuster plan count).pending = s.pending := by
  simp only [State.takeMuster]
  (repeat' split) <;> simp

@[simp] theorem State.takeRun_keeps (s : State) (plan : BitVec 16) (first : BitVec 5) :
    (s.takeRun plan first).front = s.front ∧
    (s.takeRun plan first).plan = s.plan ∧
    (s.takeRun plan first).gate = s.gate ∧
    (s.takeRun plan first).timed = s.timed ∧
    (s.takeRun plan first).line.strap = s.line.strap ∧
    (s.takeRun plan first).line.link = s.line.link ∧
    (s.takeRun plan first).line.phase = s.line.phase ∧
    (s.takeRun plan first).line.endSlot = s.line.endSlot ∧
    (s.takeRun plan first).line.gapEnd = s.line.gapEnd ∧
    (s.takeRun plan first).line.recessiveSince = s.line.recessiveSince ∧
    (s.takeRun plan first).line.receive = s.line.receive ∧
    (s.takeRun plan first).line.transmit = s.line.transmit ∧
    (s.takeRun plan first).line.role = s.line.role ∧
    (s.takeRun plan first).line.abortDriven = s.line.abortDriven ∧
    (s.takeRun plan first).coord.source = s.coord.source ∧
    (s.takeRun plan first).coord.waitEnd = s.coord.waitEnd ∧
    (s.takeRun plan first).closure = s.closure ∧
    (s.takeRun plan first).power = s.power ∧
    (s.takeRun plan first).rstnLow = s.rstnLow ∧
    (s.takeRun plan first).freeDraws = s.freeDraws ∧
    (s.takeRun plan first).pending = s.pending := by
  simp only [State.takeRun]
  (repeat' split) <;> simp

@[simp] theorem State.takeClose_keeps (s : State) :
    (s.takeClose).front = s.front ∧
    (s.takeClose).plan = s.plan ∧
    (s.takeClose).gate = s.gate ∧
    (s.takeClose).timed = s.timed ∧
    (s.takeClose).line.strap = s.line.strap ∧
    (s.takeClose).line.link = s.line.link ∧
    (s.takeClose).line.phase = s.line.phase ∧
    (s.takeClose).line.endSlot = s.line.endSlot ∧
    (s.takeClose).line.gapEnd = s.line.gapEnd ∧
    (s.takeClose).line.recessiveSince = s.line.recessiveSince ∧
    (s.takeClose).line.receive = s.line.receive ∧
    (s.takeClose).line.transmit = s.line.transmit ∧
    (s.takeClose).line.role = s.line.role ∧
    (s.takeClose).line.abortDriven = s.line.abortDriven ∧
    (s.takeClose).coord.step = s.coord.step ∧
    (s.takeClose).coord.source = s.coord.source ∧
    (s.takeClose).coord.results = s.coord.results ∧
    (s.takeClose).coord.gatherEnd = s.coord.gatherEnd ∧
    (s.takeClose).coord.waitEnd = s.coord.waitEnd ∧
    (s.takeClose).coord.deadline = s.coord.deadline ∧
    (s.takeClose).coord.expired = s.coord.expired ∧
    (s.takeClose).coord.suspension = s.coord.suspension ∧
    (s.takeClose).coord.holds = s.coord.holds ∧
    (s.takeClose).coord.restarts = s.coord.restarts ∧
    (s.takeClose).coord.runHolds = s.coord.runHolds ∧
    (s.takeClose).coord.runRestarts = s.coord.runRestarts ∧
    (s.takeClose).power = s.power ∧
    (s.takeClose).rstnLow = s.rstnLow ∧
    (s.takeClose).freeDraws = s.freeDraws ∧
    (s.takeClose).pending = s.pending := by
  simp only [State.takeClose]
  (repeat' split) <;> simp

@[simp] theorem State.weighHold_keeps (s : State) (k : StepIx) :
    (s.weighHold k).front = s.front ∧
    (s.weighHold k).plan = s.plan ∧
    (s.weighHold k).gate.state = s.gate.state ∧
    (s.weighHold k).gate.step = s.gate.step ∧
    (s.weighHold k).gate.settings = s.gate.settings ∧
    (s.weighHold k).gate.n = s.gate.n ∧
    (s.weighHold k).gate.error = s.gate.error ∧
    (s.weighHold k).timed = s.timed ∧
    (s.weighHold k).line.strap = s.line.strap ∧
    (s.weighHold k).line.link = s.line.link ∧
    (s.weighHold k).line.phase = s.line.phase ∧
    (s.weighHold k).line.endSlot = s.line.endSlot ∧
    (s.weighHold k).line.gapEnd = s.line.gapEnd ∧
    (s.weighHold k).line.recessiveSince = s.line.recessiveSince ∧
    (s.weighHold k).line.receive = s.line.receive ∧
    (s.weighHold k).line.transmit = s.line.transmit ∧
    (s.weighHold k).line.role = s.line.role ∧
    (s.weighHold k).line.abortDriven = s.line.abortDriven ∧
    (s.weighHold k).coord.run = s.coord.run ∧
    (s.weighHold k).coord.step = s.coord.step ∧
    (s.weighHold k).coord.source = s.coord.source ∧
    (s.weighHold k).coord.roster = s.coord.roster ∧
    (s.weighHold k).coord.stage = s.coord.stage ∧
    (s.weighHold k).coord.home = s.coord.home ∧
    (s.weighHold k).coord.remembered = s.coord.remembered ∧
    (s.weighHold k).coord.windowEnd = s.coord.windowEnd ∧
    (s.weighHold k).coord.verdict = s.coord.verdict ∧
    (s.weighHold k).coord.results = s.coord.results ∧
    (s.weighHold k).coord.gatherEnd = s.coord.gatherEnd ∧
    (s.weighHold k).coord.waitEnd = s.coord.waitEnd ∧
    (s.weighHold k).coord.suspension = s.coord.suspension ∧
    (s.weighHold k).coord.restarts = s.coord.restarts ∧
    (s.weighHold k).coord.runRestarts = s.coord.runRestarts ∧
    (s.weighHold k).closure = s.closure ∧
    (s.weighHold k).power = s.power ∧
    (s.weighHold k).rstnLow = s.rstnLow ∧
    (s.weighHold k).freeDraws = s.freeDraws ∧
    (s.weighHold k).pending = s.pending := by
  simp only [State.weighHold]
  (repeat' split) <;> simp

@[simp] theorem State.completionTest_keeps (s : State) :
    (s.completionTest).front.timeBase = s.front.timeBase ∧
    (s.completionTest).front.mtp = s.front.mtp ∧
    (s.completionTest).front.planSetting = s.front.planSetting ∧
    (s.completionTest).front.input = s.front.input ∧
    (s.completionTest).front.candidate = s.front.candidate ∧
    (s.completionTest).front.releaseTime = s.front.releaseTime ∧
    (s.completionTest).front.lastPulse = s.front.lastPulse ∧
    (s.completionTest).front.lastPeriod = s.front.lastPeriod ∧
    (s.completionTest).front.refSeen = s.front.refSeen ∧
    (s.completionTest).front.loop = s.front.loop ∧
    (s.completionTest).plan = s.plan ∧
    (s.completionTest).line.strap = s.line.strap ∧
    (s.completionTest).line.link = s.line.link ∧
    (s.completionTest).line.phase = s.line.phase ∧
    (s.completionTest).line.endSlot = s.line.endSlot ∧
    (s.completionTest).line.gapEnd = s.line.gapEnd ∧
    (s.completionTest).line.recessiveSince = s.line.recessiveSince ∧
    (s.completionTest).line.receive = s.line.receive ∧
    (s.completionTest).line.transmit = s.line.transmit ∧
    (s.completionTest).line.role = s.line.role ∧
    (s.completionTest).line.abortDriven = s.line.abortDriven ∧
    (s.completionTest).coord.source = s.coord.source ∧
    (s.completionTest).coord.stage = s.coord.stage ∧
    (s.completionTest).coord.home = s.coord.home ∧
    (s.completionTest).coord.remembered = s.coord.remembered ∧
    (s.completionTest).coord.windowEnd = s.coord.windowEnd ∧
    (s.completionTest).coord.results = s.coord.results ∧
    (s.completionTest).coord.runHolds = s.coord.runHolds ∧
    (s.completionTest).coord.runRestarts = s.coord.runRestarts ∧
    (s.completionTest).closure = s.closure ∧
    (s.completionTest).power = s.power ∧
    (s.completionTest).rstnLow = s.rstnLow ∧
    (s.completionTest).freeDraws = s.freeDraws ∧
    (s.completionTest).pending = s.pending := by
  simp only [State.completionTest]
  (repeat' split) <;> simp

@[simp] theorem State.commonStart_keeps (s : State) (t0 : Nat) (quiet : Bool) :
    (s.commonStart t0 quiet).plan = s.plan ∧
    (s.commonStart t0 quiet).gate.step = s.gate.step ∧
    (s.commonStart t0 quiet).gate.settings = s.gate.settings ∧
    (s.commonStart t0 quiet).gate.n = s.gate.n ∧
    (s.commonStart t0 quiet).gate.error = s.gate.error ∧
    (s.commonStart t0 quiet).timed.step = s.timed.step ∧
    (s.commonStart t0 quiet).timed.settings = s.timed.settings ∧
    (s.commonStart t0 quiet).line.strap = s.line.strap ∧
    (s.commonStart t0 quiet).line.link = s.line.link ∧
    (s.commonStart t0 quiet).line.phase = s.line.phase ∧
    (s.commonStart t0 quiet).line.endSlot = s.line.endSlot ∧
    (s.commonStart t0 quiet).line.gapEnd = s.line.gapEnd ∧
    (s.commonStart t0 quiet).line.recessiveSince = s.line.recessiveSince ∧
    (s.commonStart t0 quiet).line.receive = s.line.receive ∧
    (s.commonStart t0 quiet).line.transmit = s.line.transmit ∧
    (s.commonStart t0 quiet).line.role = s.line.role ∧
    (s.commonStart t0 quiet).line.abortDriven = s.line.abortDriven ∧
    (s.commonStart t0 quiet).coord.run = s.coord.run ∧
    (s.commonStart t0 quiet).coord.step = s.coord.step ∧
    (s.commonStart t0 quiet).coord.source = s.coord.source ∧
    (s.commonStart t0 quiet).coord.roster = s.coord.roster ∧
    (s.commonStart t0 quiet).coord.stage = s.coord.stage ∧
    (s.commonStart t0 quiet).coord.home = s.coord.home ∧
    (s.commonStart t0 quiet).coord.remembered = s.coord.remembered ∧
    (s.commonStart t0 quiet).coord.windowEnd = s.coord.windowEnd ∧
    (s.commonStart t0 quiet).coord.verdict = s.coord.verdict ∧
    (s.commonStart t0 quiet).coord.gatherEnd = s.coord.gatherEnd ∧
    (s.commonStart t0 quiet).coord.suspension = s.coord.suspension ∧
    (s.commonStart t0 quiet).coord.holds = s.coord.holds ∧
    (s.commonStart t0 quiet).coord.restarts = s.coord.restarts ∧
    (s.commonStart t0 quiet).coord.runHolds = s.coord.runHolds ∧
    (s.commonStart t0 quiet).coord.runRestarts = s.coord.runRestarts ∧
    (s.commonStart t0 quiet).closure = s.closure ∧
    (s.commonStart t0 quiet).power = s.power ∧
    (s.commonStart t0 quiet).rstnLow = s.rstnLow ∧
    (s.commonStart t0 quiet).freeDraws = s.freeDraws ∧
    (s.commonStart t0 quiet).pending = s.pending := by
  simp only [State.commonStart]
  (repeat' split) <;> simp

@[simp] theorem State.voidStep_keeps (s : State) (k : StepIx) :
    (s.voidStep k).front.timeBase = s.front.timeBase ∧
    (s.voidStep k).front.mtp = s.front.mtp ∧
    (s.voidStep k).front.planSetting = s.front.planSetting ∧
    (s.voidStep k).front.input = s.front.input ∧
    (s.voidStep k).front.candidate = s.front.candidate ∧
    (s.voidStep k).front.releaseTime = s.front.releaseTime ∧
    (s.voidStep k).front.lastPulse = s.front.lastPulse ∧
    (s.voidStep k).front.lastPeriod = s.front.lastPeriod ∧
    (s.voidStep k).front.refSeen = s.front.refSeen ∧
    (s.voidStep k).front.loop = s.front.loop ∧
    (s.voidStep k).plan = s.plan ∧
    (s.voidStep k).line.strap = s.line.strap ∧
    (s.voidStep k).line.link = s.line.link ∧
    (s.voidStep k).line.phase = s.line.phase ∧
    (s.voidStep k).line.endSlot = s.line.endSlot ∧
    (s.voidStep k).line.gapEnd = s.line.gapEnd ∧
    (s.voidStep k).line.recessiveSince = s.line.recessiveSince ∧
    (s.voidStep k).line.receive = s.line.receive ∧
    (s.voidStep k).line.transmit = s.line.transmit ∧
    (s.voidStep k).line.role = s.line.role ∧
    (s.voidStep k).line.abortDriven = s.line.abortDriven ∧
    (s.voidStep k).coord.source = s.coord.source ∧
    (s.voidStep k).coord.stage = s.coord.stage ∧
    (s.voidStep k).coord.home = s.coord.home ∧
    (s.voidStep k).coord.remembered = s.coord.remembered ∧
    (s.voidStep k).coord.windowEnd = s.coord.windowEnd ∧
    (s.voidStep k).coord.runHolds = s.coord.runHolds ∧
    (s.voidStep k).coord.runRestarts = s.coord.runRestarts ∧
    (s.voidStep k).closure = s.closure ∧
    (s.voidStep k).power = s.power ∧
    (s.voidStep k).rstnLow = s.rstnLow ∧
    (s.voidStep k).freeDraws = s.freeDraws ∧
    (s.voidStep k).pending = s.pending := by
  simp only [State.voidStep]
  simp

@[simp] theorem State.routePulse_keeps (s : State) (stamp : Nat) (period : Option Nat) :
    (s.routePulse stamp period).front.timeBase = s.front.timeBase ∧
    (s.routePulse stamp period).front.mtp = s.front.mtp ∧
    (s.routePulse stamp period).front.planSetting = s.front.planSetting ∧
    (s.routePulse stamp period).front.input = s.front.input ∧
    (s.routePulse stamp period).front.candidate = s.front.candidate ∧
    (s.routePulse stamp period).front.releaseTime = s.front.releaseTime ∧
    (s.routePulse stamp period).front.lastPulse = s.front.lastPulse ∧
    (s.routePulse stamp period).front.lastPeriod = s.front.lastPeriod ∧
    (s.routePulse stamp period).front.nextEdge = s.front.nextEdge ∧
    (s.routePulse stamp period).front.refSeen = s.front.refSeen ∧
    (s.routePulse stamp period).front.loop = s.front.loop ∧
    (s.routePulse stamp period).plan = s.plan ∧
    (s.routePulse stamp period).timed.step = s.timed.step ∧
    (s.routePulse stamp period).timed.settings = s.timed.settings ∧
    (s.routePulse stamp period).line.strap = s.line.strap ∧
    (s.routePulse stamp period).line.link = s.line.link ∧
    (s.routePulse stamp period).line.phase = s.line.phase ∧
    (s.routePulse stamp period).line.endSlot = s.line.endSlot ∧
    (s.routePulse stamp period).line.gapEnd = s.line.gapEnd ∧
    (s.routePulse stamp period).line.recessiveSince = s.line.recessiveSince ∧
    (s.routePulse stamp period).line.receive = s.line.receive ∧
    (s.routePulse stamp period).line.transmit = s.line.transmit ∧
    (s.routePulse stamp period).line.role = s.line.role ∧
    (s.routePulse stamp period).line.abortDriven = s.line.abortDriven ∧
    (s.routePulse stamp period).coord.run = s.coord.run ∧
    (s.routePulse stamp period).coord.step = s.coord.step ∧
    (s.routePulse stamp period).coord.source = s.coord.source ∧
    (s.routePulse stamp period).coord.roster = s.coord.roster ∧
    (s.routePulse stamp period).coord.stage = s.coord.stage ∧
    (s.routePulse stamp period).coord.home = s.coord.home ∧
    (s.routePulse stamp period).coord.remembered = s.coord.remembered ∧
    (s.routePulse stamp period).coord.windowEnd = s.coord.windowEnd ∧
    (s.routePulse stamp period).coord.verdict = s.coord.verdict ∧
    (s.routePulse stamp period).coord.gatherEnd = s.coord.gatherEnd ∧
    (s.routePulse stamp period).coord.waitEnd = s.coord.waitEnd ∧
    (s.routePulse stamp period).coord.deadline = s.coord.deadline ∧
    (s.routePulse stamp period).coord.expired = s.coord.expired ∧
    (s.routePulse stamp period).coord.suspension = s.coord.suspension ∧
    (s.routePulse stamp period).coord.holds = s.coord.holds ∧
    (s.routePulse stamp period).coord.restarts = s.coord.restarts ∧
    (s.routePulse stamp period).coord.runHolds = s.coord.runHolds ∧
    (s.routePulse stamp period).coord.runRestarts = s.coord.runRestarts ∧
    (s.routePulse stamp period).closure = s.closure ∧
    (s.routePulse stamp period).power.state = s.power.state ∧
    (s.routePulse stamp period).power.clamp = s.power.clamp ∧
    (s.routePulse stamp period).power.parkedSince = s.power.parkedSince ∧
    (s.routePulse stamp period).power.heldClosing = s.power.heldClosing ∧
    (s.routePulse stamp period).power.wakeStart = s.power.wakeStart ∧
    (s.routePulse stamp period).power.selfTest = s.power.selfTest ∧
    (s.routePulse stamp period).power.hdpw = s.power.hdpw ∧
    (s.routePulse stamp period).rstnLow = s.rstnLow ∧
    (s.routePulse stamp period).freeDraws = s.freeDraws ∧
    (s.routePulse stamp period).pending = s.pending := by
  simp only [State.routePulse]
  (repeat' split) <;> simp

@[simp] theorem State.endWaking_keeps (s : State) :
    (s.endWaking).front = s.front ∧
    (s.endWaking).plan = s.plan ∧
    (s.endWaking).gate = s.gate ∧
    (s.endWaking).timed = s.timed ∧
    (s.endWaking).line.strap = s.line.strap ∧
    (s.endWaking).line.link = s.line.link ∧
    (s.endWaking).line.phase = s.line.phase ∧
    (s.endWaking).line.endSlot = s.line.endSlot ∧
    (s.endWaking).line.gapEnd = s.line.gapEnd ∧
    (s.endWaking).line.recessiveSince = s.line.recessiveSince ∧
    (s.endWaking).line.receive = s.line.receive ∧
    (s.endWaking).line.transmit = s.line.transmit ∧
    (s.endWaking).line.role = s.line.role ∧
    (s.endWaking).line.abortDriven = s.line.abortDriven ∧
    (s.endWaking).coord.run = s.coord.run ∧
    (s.endWaking).coord.step = s.coord.step ∧
    (s.endWaking).coord.source = s.coord.source ∧
    (s.endWaking).coord.verdict = s.coord.verdict ∧
    (s.endWaking).coord.results = s.coord.results ∧
    (s.endWaking).coord.gatherEnd = s.coord.gatherEnd ∧
    (s.endWaking).coord.waitEnd = s.coord.waitEnd ∧
    (s.endWaking).coord.deadline = s.coord.deadline ∧
    (s.endWaking).coord.expired = s.coord.expired ∧
    (s.endWaking).coord.suspension = s.coord.suspension ∧
    (s.endWaking).coord.holds = s.coord.holds ∧
    (s.endWaking).coord.restarts = s.coord.restarts ∧
    (s.endWaking).coord.runHolds = s.coord.runHolds ∧
    (s.endWaking).coord.runRestarts = s.coord.runRestarts ∧
    (s.endWaking).closure.record = s.closure.record ∧
    (s.endWaking).closure.press = s.closure.press ∧
    (s.endWaking).power.clamp = s.power.clamp ∧
    (s.endWaking).power.parkedSince = s.power.parkedSince ∧
    (s.endWaking).power.heldClosing = s.power.heldClosing ∧
    (s.endWaking).rstnLow = s.rstnLow ∧
    (s.endWaking).freeDraws = s.freeDraws ∧
    (s.endWaking).pending = s.pending := by
  simp only [State.endWaking]
  simp

@[simp] theorem State.abortFrame_keeps (s : State) (groups : List Group) :
    (s.abortFrame groups).front = s.front ∧
    (s.abortFrame groups).plan = s.plan ∧
    (s.abortFrame groups).gate = s.gate ∧
    (s.abortFrame groups).timed = s.timed ∧
    (s.abortFrame groups).coord = s.coord ∧
    (s.abortFrame groups).closure = s.closure ∧
    (s.abortFrame groups).power = s.power ∧
    (s.abortFrame groups).rstnLow = s.rstnLow ∧
    (s.abortFrame groups).freeDraws = s.freeDraws ∧
    (s.abortFrame groups).pending = s.pending := by
  simp only [State.abortFrame]
  (repeat' split) <;> simp

@[simp] theorem State.runEndedByClamp_keeps (s : State) :
    (s.runEndedByClamp).front.timeBase = s.front.timeBase ∧
    (s.runEndedByClamp).front.mtp = s.front.mtp ∧
    (s.runEndedByClamp).front.planSetting = s.front.planSetting ∧
    (s.runEndedByClamp).front.input = s.front.input ∧
    (s.runEndedByClamp).front.candidate = s.front.candidate ∧
    (s.runEndedByClamp).front.releaseTime = s.front.releaseTime ∧
    (s.runEndedByClamp).front.lastPulse = s.front.lastPulse ∧
    (s.runEndedByClamp).front.lastPeriod = s.front.lastPeriod ∧
    (s.runEndedByClamp).front.refSeen = s.front.refSeen ∧
    (s.runEndedByClamp).front.loop = s.front.loop ∧
    (s.runEndedByClamp).plan = s.plan ∧
    (s.runEndedByClamp).line.strap = s.line.strap ∧
    (s.runEndedByClamp).line.link = s.line.link ∧
    (s.runEndedByClamp).line.phase = s.line.phase ∧
    (s.runEndedByClamp).line.endSlot = s.line.endSlot ∧
    (s.runEndedByClamp).line.gapEnd = s.line.gapEnd ∧
    (s.runEndedByClamp).line.recessiveSince = s.line.recessiveSince ∧
    (s.runEndedByClamp).line.receive = s.line.receive ∧
    (s.runEndedByClamp).line.transmit = s.line.transmit ∧
    (s.runEndedByClamp).line.role = s.line.role ∧
    (s.runEndedByClamp).line.abortDriven = s.line.abortDriven ∧
    (s.runEndedByClamp).coord.source = s.coord.source ∧
    (s.runEndedByClamp).coord.roster = s.coord.roster ∧
    (s.runEndedByClamp).coord.stage = s.coord.stage ∧
    (s.runEndedByClamp).coord.home = s.coord.home ∧
    (s.runEndedByClamp).coord.remembered = s.coord.remembered ∧
    (s.runEndedByClamp).coord.windowEnd = s.coord.windowEnd ∧
    (s.runEndedByClamp).coord.runHolds = s.coord.runHolds ∧
    (s.runEndedByClamp).coord.runRestarts = s.coord.runRestarts ∧
    (s.runEndedByClamp).closure = s.closure ∧
    (s.runEndedByClamp).power = s.power ∧
    (s.runEndedByClamp).rstnLow = s.rstnLow ∧
    (s.runEndedByClamp).freeDraws = s.freeDraws ∧
    (s.runEndedByClamp).pending = s.pending := by
  simp only [State.runEndedByClamp]
  (repeat' split) <;> simp

@[simp] theorem State.takeStep_keeps (s : State) (x : StepPayload) :
    (s.takeStep x).front = s.front ∧
    (s.takeStep x).plan.number = s.plan.number ∧
    (s.takeStep x).plan.fields = s.plan.fields ∧
    (s.takeStep x).gate = s.gate ∧
    (s.takeStep x).timed = s.timed ∧
    (s.takeStep x).line.strap = s.line.strap ∧
    (s.takeStep x).line.link = s.line.link ∧
    (s.takeStep x).line.phase = s.line.phase ∧
    (s.takeStep x).line.endSlot = s.line.endSlot ∧
    (s.takeStep x).line.gapEnd = s.line.gapEnd ∧
    (s.takeStep x).line.recessiveSince = s.line.recessiveSince ∧
    (s.takeStep x).line.receive = s.line.receive ∧
    (s.takeStep x).line.transmit = s.line.transmit ∧
    (s.takeStep x).line.role = s.line.role ∧
    (s.takeStep x).line.abortDriven = s.line.abortDriven ∧
    (s.takeStep x).coord.source = s.coord.source ∧
    (s.takeStep x).coord.verdict = s.coord.verdict ∧
    (s.takeStep x).coord.gatherEnd = s.coord.gatherEnd ∧
    (s.takeStep x).coord.waitEnd = s.coord.waitEnd ∧
    (s.takeStep x).coord.deadline = s.coord.deadline ∧
    (s.takeStep x).coord.expired = s.coord.expired ∧
    (s.takeStep x).coord.suspension = s.coord.suspension ∧
    (s.takeStep x).coord.holds = s.coord.holds ∧
    (s.takeStep x).coord.restarts = s.coord.restarts ∧
    (s.takeStep x).coord.runHolds = s.coord.runHolds ∧
    (s.takeStep x).coord.runRestarts = s.coord.runRestarts ∧
    (s.takeStep x).closure = s.closure ∧
    (s.takeStep x).power = s.power ∧
    (s.takeStep x).rstnLow = s.rstnLow ∧
    (s.takeStep x).freeDraws = s.freeDraws ∧
    (s.takeStep x).pending = s.pending := by
  simp only [State.takeStep]
  (repeat' split) <;> simp

@[simp] theorem State.haltHere_keeps (s : State) :
    (s.haltHere).front.timeBase = s.front.timeBase ∧
    (s.haltHere).front.mtp = s.front.mtp ∧
    (s.haltHere).front.planSetting = s.front.planSetting ∧
    (s.haltHere).front.input = s.front.input ∧
    (s.haltHere).front.candidate = s.front.candidate ∧
    (s.haltHere).front.releaseTime = s.front.releaseTime ∧
    (s.haltHere).front.lastPulse = s.front.lastPulse ∧
    (s.haltHere).front.lastPeriod = s.front.lastPeriod ∧
    (s.haltHere).front.refSeen = s.front.refSeen ∧
    (s.haltHere).front.loop = s.front.loop ∧
    (s.haltHere).plan = s.plan ∧
    (s.haltHere).line.strap = s.line.strap ∧
    (s.haltHere).line.link = s.line.link ∧
    (s.haltHere).line.phase = s.line.phase ∧
    (s.haltHere).line.endSlot = s.line.endSlot ∧
    (s.haltHere).line.gapEnd = s.line.gapEnd ∧
    (s.haltHere).line.recessiveSince = s.line.recessiveSince ∧
    (s.haltHere).line.receive = s.line.receive ∧
    (s.haltHere).line.transmit = s.line.transmit ∧
    (s.haltHere).line.role = s.line.role ∧
    (s.haltHere).line.abortDriven = s.line.abortDriven ∧
    (s.haltHere).coord.source = s.coord.source ∧
    (s.haltHere).coord.runHolds = s.coord.runHolds ∧
    (s.haltHere).coord.runRestarts = s.coord.runRestarts ∧
    (s.haltHere).closure = s.closure ∧
    (s.haltHere).power = s.power ∧
    (s.haltHere).rstnLow = s.rstnLow ∧
    (s.haltHere).freeDraws = s.freeDraws ∧
    (s.haltHere).pending = s.pending := by
  simp only [State.haltHere]
  (repeat' split) <;> simp

@[simp] theorem State.takeSettled_keeps (s : State) (loadPoint : BitVec 8) :
    (s.takeSettled loadPoint).front.timeBase = s.front.timeBase ∧
    (s.takeSettled loadPoint).front.mtp = s.front.mtp ∧
    (s.takeSettled loadPoint).front.planSetting = s.front.planSetting ∧
    (s.takeSettled loadPoint).front.input = s.front.input ∧
    (s.takeSettled loadPoint).front.candidate = s.front.candidate ∧
    (s.takeSettled loadPoint).front.releaseTime = s.front.releaseTime ∧
    (s.takeSettled loadPoint).front.lastPulse = s.front.lastPulse ∧
    (s.takeSettled loadPoint).front.lastPeriod = s.front.lastPeriod ∧
    (s.takeSettled loadPoint).front.counter = s.front.counter ∧
    (s.takeSettled loadPoint).front.refSeen = s.front.refSeen ∧
    (s.takeSettled loadPoint).front.loop = s.front.loop ∧
    (s.takeSettled loadPoint).plan = s.plan ∧
    (s.takeSettled loadPoint).line.strap = s.line.strap ∧
    (s.takeSettled loadPoint).line.link = s.line.link ∧
    (s.takeSettled loadPoint).line.phase = s.line.phase ∧
    (s.takeSettled loadPoint).line.endSlot = s.line.endSlot ∧
    (s.takeSettled loadPoint).line.gapEnd = s.line.gapEnd ∧
    (s.takeSettled loadPoint).line.recessiveSince = s.line.recessiveSince ∧
    (s.takeSettled loadPoint).line.receive = s.line.receive ∧
    (s.takeSettled loadPoint).line.transmit = s.line.transmit ∧
    (s.takeSettled loadPoint).line.role = s.line.role ∧
    (s.takeSettled loadPoint).line.abortDriven = s.line.abortDriven ∧
    (s.takeSettled loadPoint).coord.step = s.coord.step ∧
    (s.takeSettled loadPoint).coord.roster = s.coord.roster ∧
    (s.takeSettled loadPoint).coord.stage = s.coord.stage ∧
    (s.takeSettled loadPoint).coord.home = s.coord.home ∧
    (s.takeSettled loadPoint).coord.remembered = s.coord.remembered ∧
    (s.takeSettled loadPoint).coord.windowEnd = s.coord.windowEnd ∧
    (s.takeSettled loadPoint).coord.verdict = s.coord.verdict ∧
    (s.takeSettled loadPoint).coord.results = s.coord.results ∧
    (s.takeSettled loadPoint).coord.runHolds = s.coord.runHolds ∧
    (s.takeSettled loadPoint).closure = s.closure ∧
    (s.takeSettled loadPoint).power = s.power ∧
    (s.takeSettled loadPoint).rstnLow = s.rstnLow ∧
    (s.takeSettled loadPoint).freeDraws = s.freeDraws ∧
    (s.takeSettled loadPoint).pending = s.pending := by
  simp only [State.takeSettled]
  (repeat' split) <;> simp

@[simp] theorem State.takeReady_keeps (s : State) (source : Position) (k : StepIx) :
    (s.takeReady source k).front.timeBase = s.front.timeBase ∧
    (s.takeReady source k).front.mtp = s.front.mtp ∧
    (s.takeReady source k).front.planSetting = s.front.planSetting ∧
    (s.takeReady source k).front.input = s.front.input ∧
    (s.takeReady source k).front.candidate = s.front.candidate ∧
    (s.takeReady source k).front.releaseTime = s.front.releaseTime ∧
    (s.takeReady source k).front.lastPulse = s.front.lastPulse ∧
    (s.takeReady source k).front.lastPeriod = s.front.lastPeriod ∧
    (s.takeReady source k).front.counter = s.front.counter ∧
    (s.takeReady source k).front.refSeen = s.front.refSeen ∧
    (s.takeReady source k).front.loop = s.front.loop ∧
    (s.takeReady source k).plan = s.plan ∧
    (s.takeReady source k).line.strap = s.line.strap ∧
    (s.takeReady source k).line.link = s.line.link ∧
    (s.takeReady source k).line.phase = s.line.phase ∧
    (s.takeReady source k).line.endSlot = s.line.endSlot ∧
    (s.takeReady source k).line.gapEnd = s.line.gapEnd ∧
    (s.takeReady source k).line.recessiveSince = s.line.recessiveSince ∧
    (s.takeReady source k).line.receive = s.line.receive ∧
    (s.takeReady source k).line.transmit = s.line.transmit ∧
    (s.takeReady source k).line.role = s.line.role ∧
    (s.takeReady source k).line.abortDriven = s.line.abortDriven ∧
    (s.takeReady source k).coord.step = s.coord.step ∧
    (s.takeReady source k).coord.source = s.coord.source ∧
    (s.takeReady source k).coord.stage = s.coord.stage ∧
    (s.takeReady source k).coord.home = s.coord.home ∧
    (s.takeReady source k).coord.remembered = s.coord.remembered ∧
    (s.takeReady source k).coord.windowEnd = s.coord.windowEnd ∧
    (s.takeReady source k).coord.verdict = s.coord.verdict ∧
    (s.takeReady source k).coord.results = s.coord.results ∧
    (s.takeReady source k).coord.deadline = s.coord.deadline ∧
    (s.takeReady source k).coord.expired = s.coord.expired ∧
    (s.takeReady source k).coord.suspension = s.coord.suspension ∧
    (s.takeReady source k).coord.holds = s.coord.holds ∧
    (s.takeReady source k).coord.restarts = s.coord.restarts ∧
    (s.takeReady source k).coord.runHolds = s.coord.runHolds ∧
    (s.takeReady source k).coord.runRestarts = s.coord.runRestarts ∧
    (s.takeReady source k).closure = s.closure ∧
    (s.takeReady source k).power = s.power ∧
    (s.takeReady source k).rstnLow = s.rstnLow ∧
    (s.takeReady source k).freeDraws = s.freeDraws ∧
    (s.takeReady source k).pending = s.pending := by
  simp only [State.takeReady]
  (repeat' split) <;> simp

@[simp] theorem State.afterGatherLapse_keeps (s : State) :
    (s.afterGatherLapse).front.timeBase = s.front.timeBase ∧
    (s.afterGatherLapse).front.mtp = s.front.mtp ∧
    (s.afterGatherLapse).front.planSetting = s.front.planSetting ∧
    (s.afterGatherLapse).front.input = s.front.input ∧
    (s.afterGatherLapse).front.candidate = s.front.candidate ∧
    (s.afterGatherLapse).front.releaseTime = s.front.releaseTime ∧
    (s.afterGatherLapse).front.lastPulse = s.front.lastPulse ∧
    (s.afterGatherLapse).front.lastPeriod = s.front.lastPeriod ∧
    (s.afterGatherLapse).front.counter = s.front.counter ∧
    (s.afterGatherLapse).front.refSeen = s.front.refSeen ∧
    (s.afterGatherLapse).front.loop = s.front.loop ∧
    (s.afterGatherLapse).plan = s.plan ∧
    (s.afterGatherLapse).line.strap = s.line.strap ∧
    (s.afterGatherLapse).line.link = s.line.link ∧
    (s.afterGatherLapse).line.phase = s.line.phase ∧
    (s.afterGatherLapse).line.endSlot = s.line.endSlot ∧
    (s.afterGatherLapse).line.gapEnd = s.line.gapEnd ∧
    (s.afterGatherLapse).line.recessiveSince = s.line.recessiveSince ∧
    (s.afterGatherLapse).line.receive = s.line.receive ∧
    (s.afterGatherLapse).line.transmit = s.line.transmit ∧
    (s.afterGatherLapse).line.role = s.line.role ∧
    (s.afterGatherLapse).line.abortDriven = s.line.abortDriven ∧
    (s.afterGatherLapse).coord.step = s.coord.step ∧
    (s.afterGatherLapse).coord.source = s.coord.source ∧
    (s.afterGatherLapse).coord.roster = s.coord.roster ∧
    (s.afterGatherLapse).coord.stage = s.coord.stage ∧
    (s.afterGatherLapse).coord.home = s.coord.home ∧
    (s.afterGatherLapse).coord.remembered = s.coord.remembered ∧
    (s.afterGatherLapse).coord.windowEnd = s.coord.windowEnd ∧
    (s.afterGatherLapse).coord.results = s.coord.results ∧
    (s.afterGatherLapse).coord.expired = s.coord.expired ∧
    (s.afterGatherLapse).coord.suspension = s.coord.suspension ∧
    (s.afterGatherLapse).coord.holds = s.coord.holds ∧
    (s.afterGatherLapse).coord.restarts = s.coord.restarts ∧
    (s.afterGatherLapse).coord.runHolds = s.coord.runHolds ∧
    (s.afterGatherLapse).coord.runRestarts = s.coord.runRestarts ∧
    (s.afterGatherLapse).closure = s.closure ∧
    (s.afterGatherLapse).power = s.power ∧
    (s.afterGatherLapse).rstnLow = s.rstnLow ∧
    (s.afterGatherLapse).freeDraws = s.freeDraws ∧
    (s.afterGatherLapse).pending = s.pending := by
  simp only [State.afterGatherLapse]
  (repeat' split) <;> simp

@[simp] theorem State.takeHold_keeps (s : State) (source : Position) (k : StepIx) :
    (s.takeHold source k).front = s.front ∧
    (s.takeHold source k).plan = s.plan ∧
    (s.takeHold source k).gate.state = s.gate.state ∧
    (s.takeHold source k).gate.step = s.gate.step ∧
    (s.takeHold source k).gate.settings = s.gate.settings ∧
    (s.takeHold source k).gate.n = s.gate.n ∧
    (s.takeHold source k).gate.error = s.gate.error ∧
    (s.takeHold source k).timed = s.timed ∧
    (s.takeHold source k).line.strap = s.line.strap ∧
    (s.takeHold source k).line.link = s.line.link ∧
    (s.takeHold source k).line.phase = s.line.phase ∧
    (s.takeHold source k).line.endSlot = s.line.endSlot ∧
    (s.takeHold source k).line.gapEnd = s.line.gapEnd ∧
    (s.takeHold source k).line.recessiveSince = s.line.recessiveSince ∧
    (s.takeHold source k).line.receive = s.line.receive ∧
    (s.takeHold source k).line.transmit = s.line.transmit ∧
    (s.takeHold source k).line.role = s.line.role ∧
    (s.takeHold source k).line.abortDriven = s.line.abortDriven ∧
    (s.takeHold source k).coord.run = s.coord.run ∧
    (s.takeHold source k).coord.step = s.coord.step ∧
    (s.takeHold source k).coord.source = s.coord.source ∧
    (s.takeHold source k).coord.roster = s.coord.roster ∧
    (s.takeHold source k).coord.stage = s.coord.stage ∧
    (s.takeHold source k).coord.home = s.coord.home ∧
    (s.takeHold source k).coord.remembered = s.coord.remembered ∧
    (s.takeHold source k).coord.windowEnd = s.coord.windowEnd ∧
    (s.takeHold source k).coord.verdict = s.coord.verdict ∧
    (s.takeHold source k).coord.results = s.coord.results ∧
    (s.takeHold source k).coord.gatherEnd = s.coord.gatherEnd ∧
    (s.takeHold source k).coord.waitEnd = s.coord.waitEnd ∧
    (s.takeHold source k).coord.suspension = s.coord.suspension ∧
    (s.takeHold source k).coord.restarts = s.coord.restarts ∧
    (s.takeHold source k).coord.runRestarts = s.coord.runRestarts ∧
    (s.takeHold source k).closure = s.closure ∧
    (s.takeHold source k).power = s.power ∧
    (s.takeHold source k).rstnLow = s.rstnLow ∧
    (s.takeHold source k).freeDraws = s.freeDraws ∧
    (s.takeHold source k).pending = s.pending := by
  simp only [State.takeHold]
  (repeat' split) <;> simp

@[simp] theorem State.takeLapseMeasure_keeps (s : State) (source : Position) (k : StepIx) :
    (s.takeLapseMeasure source k).front.timeBase = s.front.timeBase ∧
    (s.takeLapseMeasure source k).front.mtp = s.front.mtp ∧
    (s.takeLapseMeasure source k).front.planSetting = s.front.planSetting ∧
    (s.takeLapseMeasure source k).front.input = s.front.input ∧
    (s.takeLapseMeasure source k).front.candidate = s.front.candidate ∧
    (s.takeLapseMeasure source k).front.releaseTime = s.front.releaseTime ∧
    (s.takeLapseMeasure source k).front.lastPulse = s.front.lastPulse ∧
    (s.takeLapseMeasure source k).front.lastPeriod = s.front.lastPeriod ∧
    (s.takeLapseMeasure source k).front.refSeen = s.front.refSeen ∧
    (s.takeLapseMeasure source k).front.loop = s.front.loop ∧
    (s.takeLapseMeasure source k).plan = s.plan ∧
    (s.takeLapseMeasure source k).line.strap = s.line.strap ∧
    (s.takeLapseMeasure source k).line.link = s.line.link ∧
    (s.takeLapseMeasure source k).line.phase = s.line.phase ∧
    (s.takeLapseMeasure source k).line.endSlot = s.line.endSlot ∧
    (s.takeLapseMeasure source k).line.gapEnd = s.line.gapEnd ∧
    (s.takeLapseMeasure source k).line.recessiveSince = s.line.recessiveSince ∧
    (s.takeLapseMeasure source k).line.receive = s.line.receive ∧
    (s.takeLapseMeasure source k).line.transmit = s.line.transmit ∧
    (s.takeLapseMeasure source k).line.role = s.line.role ∧
    (s.takeLapseMeasure source k).line.abortDriven = s.line.abortDriven ∧
    (s.takeLapseMeasure source k).coord.source = s.coord.source ∧
    (s.takeLapseMeasure source k).coord.stage = s.coord.stage ∧
    (s.takeLapseMeasure source k).coord.home = s.coord.home ∧
    (s.takeLapseMeasure source k).coord.remembered = s.coord.remembered ∧
    (s.takeLapseMeasure source k).coord.windowEnd = s.coord.windowEnd ∧
    (s.takeLapseMeasure source k).coord.runHolds = s.coord.runHolds ∧
    (s.takeLapseMeasure source k).coord.runRestarts = s.coord.runRestarts ∧
    (s.takeLapseMeasure source k).closure = s.closure ∧
    (s.takeLapseMeasure source k).power = s.power ∧
    (s.takeLapseMeasure source k).rstnLow = s.rstnLow ∧
    (s.takeLapseMeasure source k).freeDraws = s.freeDraws ∧
    (s.takeLapseMeasure source k).pending = s.pending := by
  simp only [State.takeLapseMeasure]
  (repeat' split) <;> simp

@[simp] theorem State.testAfterStrike_keeps (s : State) :
    (s.testAfterStrike).front.timeBase = s.front.timeBase ∧
    (s.testAfterStrike).front.mtp = s.front.mtp ∧
    (s.testAfterStrike).front.planSetting = s.front.planSetting ∧
    (s.testAfterStrike).front.input = s.front.input ∧
    (s.testAfterStrike).front.candidate = s.front.candidate ∧
    (s.testAfterStrike).front.releaseTime = s.front.releaseTime ∧
    (s.testAfterStrike).front.lastPulse = s.front.lastPulse ∧
    (s.testAfterStrike).front.lastPeriod = s.front.lastPeriod ∧
    (s.testAfterStrike).front.refSeen = s.front.refSeen ∧
    (s.testAfterStrike).front.loop = s.front.loop ∧
    (s.testAfterStrike).plan = s.plan ∧
    (s.testAfterStrike).line.strap = s.line.strap ∧
    (s.testAfterStrike).line.link = s.line.link ∧
    (s.testAfterStrike).line.phase = s.line.phase ∧
    (s.testAfterStrike).line.endSlot = s.line.endSlot ∧
    (s.testAfterStrike).line.gapEnd = s.line.gapEnd ∧
    (s.testAfterStrike).line.recessiveSince = s.line.recessiveSince ∧
    (s.testAfterStrike).line.receive = s.line.receive ∧
    (s.testAfterStrike).line.transmit = s.line.transmit ∧
    (s.testAfterStrike).line.role = s.line.role ∧
    (s.testAfterStrike).line.abortDriven = s.line.abortDriven ∧
    (s.testAfterStrike).coord.source = s.coord.source ∧
    (s.testAfterStrike).coord.stage = s.coord.stage ∧
    (s.testAfterStrike).coord.home = s.coord.home ∧
    (s.testAfterStrike).coord.remembered = s.coord.remembered ∧
    (s.testAfterStrike).coord.windowEnd = s.coord.windowEnd ∧
    (s.testAfterStrike).coord.results = s.coord.results ∧
    (s.testAfterStrike).coord.runHolds = s.coord.runHolds ∧
    (s.testAfterStrike).coord.runRestarts = s.coord.runRestarts ∧
    (s.testAfterStrike).closure = s.closure ∧
    (s.testAfterStrike).power = s.power ∧
    (s.testAfterStrike).rstnLow = s.rstnLow ∧
    (s.testAfterStrike).freeDraws = s.freeDraws ∧
    (s.testAfterStrike).pending = s.pending := by
  simp only [State.testAfterStrike]
  (repeat' split) <;> simp

@[simp] theorem State.acceptPulse_keeps (s : State) :
    (s.acceptPulse).plan = s.plan ∧
    (s.acceptPulse).timed.step = s.timed.step ∧
    (s.acceptPulse).timed.settings = s.timed.settings ∧
    (s.acceptPulse).line.strap = s.line.strap ∧
    (s.acceptPulse).line.link = s.line.link ∧
    (s.acceptPulse).line.phase = s.line.phase ∧
    (s.acceptPulse).line.endSlot = s.line.endSlot ∧
    (s.acceptPulse).line.gapEnd = s.line.gapEnd ∧
    (s.acceptPulse).line.recessiveSince = s.line.recessiveSince ∧
    (s.acceptPulse).line.receive = s.line.receive ∧
    (s.acceptPulse).line.transmit = s.line.transmit ∧
    (s.acceptPulse).line.role = s.line.role ∧
    (s.acceptPulse).line.abortDriven = s.line.abortDriven ∧
    (s.acceptPulse).coord.run = s.coord.run ∧
    (s.acceptPulse).coord.step = s.coord.step ∧
    (s.acceptPulse).coord.source = s.coord.source ∧
    (s.acceptPulse).coord.roster = s.coord.roster ∧
    (s.acceptPulse).coord.stage = s.coord.stage ∧
    (s.acceptPulse).coord.home = s.coord.home ∧
    (s.acceptPulse).coord.remembered = s.coord.remembered ∧
    (s.acceptPulse).coord.windowEnd = s.coord.windowEnd ∧
    (s.acceptPulse).coord.verdict = s.coord.verdict ∧
    (s.acceptPulse).coord.gatherEnd = s.coord.gatherEnd ∧
    (s.acceptPulse).coord.waitEnd = s.coord.waitEnd ∧
    (s.acceptPulse).coord.deadline = s.coord.deadline ∧
    (s.acceptPulse).coord.expired = s.coord.expired ∧
    (s.acceptPulse).coord.suspension = s.coord.suspension ∧
    (s.acceptPulse).coord.holds = s.coord.holds ∧
    (s.acceptPulse).coord.restarts = s.coord.restarts ∧
    (s.acceptPulse).coord.runHolds = s.coord.runHolds ∧
    (s.acceptPulse).coord.runRestarts = s.coord.runRestarts ∧
    (s.acceptPulse).closure = s.closure ∧
    (s.acceptPulse).power.state = s.power.state ∧
    (s.acceptPulse).power.clamp = s.power.clamp ∧
    (s.acceptPulse).power.parkedSince = s.power.parkedSince ∧
    (s.acceptPulse).power.heldClosing = s.power.heldClosing ∧
    (s.acceptPulse).power.wakeStart = s.power.wakeStart ∧
    (s.acceptPulse).power.selfTest = s.power.selfTest ∧
    (s.acceptPulse).power.hdpw = s.power.hdpw ∧
    (s.acceptPulse).rstnLow = s.rstnLow ∧
    (s.acceptPulse).freeDraws = s.freeDraws ∧
    (s.acceptPulse).pending = s.pending := by
  simp only [State.acceptPulse]
  (repeat' split) <;> simp

@[simp] theorem State.referenceEdge_keeps (s : State) :
    (s.referenceEdge).plan = s.plan ∧
    (s.referenceEdge).gate.step = s.gate.step ∧
    (s.referenceEdge).gate.settings = s.gate.settings ∧
    (s.referenceEdge).gate.n = s.gate.n ∧
    (s.referenceEdge).gate.error = s.gate.error ∧
    (s.referenceEdge).timed.step = s.timed.step ∧
    (s.referenceEdge).timed.settings = s.timed.settings ∧
    (s.referenceEdge).line.strap = s.line.strap ∧
    (s.referenceEdge).line.link = s.line.link ∧
    (s.referenceEdge).line.phase = s.line.phase ∧
    (s.referenceEdge).line.endSlot = s.line.endSlot ∧
    (s.referenceEdge).line.gapEnd = s.line.gapEnd ∧
    (s.referenceEdge).line.recessiveSince = s.line.recessiveSince ∧
    (s.referenceEdge).line.receive = s.line.receive ∧
    (s.referenceEdge).line.transmit = s.line.transmit ∧
    (s.referenceEdge).line.role = s.line.role ∧
    (s.referenceEdge).line.abortDriven = s.line.abortDriven ∧
    (s.referenceEdge).coord.run = s.coord.run ∧
    (s.referenceEdge).coord.step = s.coord.step ∧
    (s.referenceEdge).coord.source = s.coord.source ∧
    (s.referenceEdge).coord.roster = s.coord.roster ∧
    (s.referenceEdge).coord.stage = s.coord.stage ∧
    (s.referenceEdge).coord.home = s.coord.home ∧
    (s.referenceEdge).coord.remembered = s.coord.remembered ∧
    (s.referenceEdge).coord.windowEnd = s.coord.windowEnd ∧
    (s.referenceEdge).coord.verdict = s.coord.verdict ∧
    (s.referenceEdge).coord.gatherEnd = s.coord.gatherEnd ∧
    (s.referenceEdge).coord.suspension = s.coord.suspension ∧
    (s.referenceEdge).coord.holds = s.coord.holds ∧
    (s.referenceEdge).coord.restarts = s.coord.restarts ∧
    (s.referenceEdge).coord.runHolds = s.coord.runHolds ∧
    (s.referenceEdge).coord.runRestarts = s.coord.runRestarts ∧
    (s.referenceEdge).closure = s.closure ∧
    (s.referenceEdge).power = s.power ∧
    (s.referenceEdge).rstnLow = s.rstnLow ∧
    (s.referenceEdge).freeDraws = s.freeDraws ∧
    (s.referenceEdge).pending = s.pending := by
  simp only [State.referenceEdge]
  (repeat' split) <;> simp

@[simp] theorem State.expireWait_keeps (s : State) :
    (s.expireWait).plan = s.plan ∧
    (s.expireWait).gate.step = s.gate.step ∧
    (s.expireWait).gate.settings = s.gate.settings ∧
    (s.expireWait).gate.n = s.gate.n ∧
    (s.expireWait).gate.error = s.gate.error ∧
    (s.expireWait).timed.step = s.timed.step ∧
    (s.expireWait).timed.settings = s.timed.settings ∧
    (s.expireWait).line.strap = s.line.strap ∧
    (s.expireWait).line.link = s.line.link ∧
    (s.expireWait).line.phase = s.line.phase ∧
    (s.expireWait).line.endSlot = s.line.endSlot ∧
    (s.expireWait).line.gapEnd = s.line.gapEnd ∧
    (s.expireWait).line.recessiveSince = s.line.recessiveSince ∧
    (s.expireWait).line.receive = s.line.receive ∧
    (s.expireWait).line.transmit = s.line.transmit ∧
    (s.expireWait).line.role = s.line.role ∧
    (s.expireWait).line.abortDriven = s.line.abortDriven ∧
    (s.expireWait).coord.run = s.coord.run ∧
    (s.expireWait).coord.step = s.coord.step ∧
    (s.expireWait).coord.source = s.coord.source ∧
    (s.expireWait).coord.roster = s.coord.roster ∧
    (s.expireWait).coord.stage = s.coord.stage ∧
    (s.expireWait).coord.home = s.coord.home ∧
    (s.expireWait).coord.remembered = s.coord.remembered ∧
    (s.expireWait).coord.windowEnd = s.coord.windowEnd ∧
    (s.expireWait).coord.verdict = s.coord.verdict ∧
    (s.expireWait).coord.gatherEnd = s.coord.gatherEnd ∧
    (s.expireWait).coord.suspension = s.coord.suspension ∧
    (s.expireWait).coord.holds = s.coord.holds ∧
    (s.expireWait).coord.restarts = s.coord.restarts ∧
    (s.expireWait).coord.runHolds = s.coord.runHolds ∧
    (s.expireWait).coord.runRestarts = s.coord.runRestarts ∧
    (s.expireWait).closure = s.closure ∧
    (s.expireWait).power = s.power ∧
    (s.expireWait).rstnLow = s.rstnLow ∧
    (s.expireWait).freeDraws = s.freeDraws ∧
    (s.expireWait).pending = s.pending := by
  simp only [State.expireWait]
  (repeat' split) <;> simp

@[simp] theorem State.coordinatorAtOpening_keeps (s : State) :
    (s.coordinatorAtOpening).front.timeBase = s.front.timeBase ∧
    (s.coordinatorAtOpening).front.mtp = s.front.mtp ∧
    (s.coordinatorAtOpening).front.planSetting = s.front.planSetting ∧
    (s.coordinatorAtOpening).front.input = s.front.input ∧
    (s.coordinatorAtOpening).front.candidate = s.front.candidate ∧
    (s.coordinatorAtOpening).front.releaseTime = s.front.releaseTime ∧
    (s.coordinatorAtOpening).front.lastPulse = s.front.lastPulse ∧
    (s.coordinatorAtOpening).front.lastPeriod = s.front.lastPeriod ∧
    (s.coordinatorAtOpening).front.refSeen = s.front.refSeen ∧
    (s.coordinatorAtOpening).front.loop = s.front.loop ∧
    (s.coordinatorAtOpening).plan = s.plan ∧
    (s.coordinatorAtOpening).line.strap = s.line.strap ∧
    (s.coordinatorAtOpening).line.link = s.line.link ∧
    (s.coordinatorAtOpening).line.phase = s.line.phase ∧
    (s.coordinatorAtOpening).line.endSlot = s.line.endSlot ∧
    (s.coordinatorAtOpening).line.gapEnd = s.line.gapEnd ∧
    (s.coordinatorAtOpening).line.recessiveSince = s.line.recessiveSince ∧
    (s.coordinatorAtOpening).line.receive = s.line.receive ∧
    (s.coordinatorAtOpening).line.transmit = s.line.transmit ∧
    (s.coordinatorAtOpening).line.role = s.line.role ∧
    (s.coordinatorAtOpening).line.abortDriven = s.line.abortDriven ∧
    (s.coordinatorAtOpening).coord.source = s.coord.source ∧
    (s.coordinatorAtOpening).coord.runHolds = s.coord.runHolds ∧
    (s.coordinatorAtOpening).coord.runRestarts = s.coord.runRestarts ∧
    (s.coordinatorAtOpening).closure = s.closure ∧
    (s.coordinatorAtOpening).power = s.power ∧
    (s.coordinatorAtOpening).rstnLow = s.rstnLow ∧
    (s.coordinatorAtOpening).freeDraws = s.freeDraws ∧
    (s.coordinatorAtOpening).pending = s.pending := by
  simp only [State.coordinatorAtOpening]
  (repeat' split) <;> simp

@[simp] theorem State.exhaust_keeps (s : State) (k : StepIx) :
    (s.exhaust k).front.timeBase = s.front.timeBase ∧
    (s.exhaust k).front.mtp = s.front.mtp ∧
    (s.exhaust k).front.planSetting = s.front.planSetting ∧
    (s.exhaust k).front.input = s.front.input ∧
    (s.exhaust k).front.candidate = s.front.candidate ∧
    (s.exhaust k).front.releaseTime = s.front.releaseTime ∧
    (s.exhaust k).front.lastPulse = s.front.lastPulse ∧
    (s.exhaust k).front.lastPeriod = s.front.lastPeriod ∧
    (s.exhaust k).front.refSeen = s.front.refSeen ∧
    (s.exhaust k).front.loop = s.front.loop ∧
    (s.exhaust k).plan = s.plan ∧
    (s.exhaust k).line.strap = s.line.strap ∧
    (s.exhaust k).line.link = s.line.link ∧
    (s.exhaust k).line.phase = s.line.phase ∧
    (s.exhaust k).line.endSlot = s.line.endSlot ∧
    (s.exhaust k).line.gapEnd = s.line.gapEnd ∧
    (s.exhaust k).line.recessiveSince = s.line.recessiveSince ∧
    (s.exhaust k).line.receive = s.line.receive ∧
    (s.exhaust k).line.transmit = s.line.transmit ∧
    (s.exhaust k).line.role = s.line.role ∧
    (s.exhaust k).line.abortDriven = s.line.abortDriven ∧
    (s.exhaust k).coord.source = s.coord.source ∧
    (s.exhaust k).coord.stage = s.coord.stage ∧
    (s.exhaust k).coord.home = s.coord.home ∧
    (s.exhaust k).coord.remembered = s.coord.remembered ∧
    (s.exhaust k).coord.windowEnd = s.coord.windowEnd ∧
    (s.exhaust k).coord.runHolds = s.coord.runHolds ∧
    (s.exhaust k).coord.runRestarts = s.coord.runRestarts ∧
    (s.exhaust k).closure = s.closure ∧
    (s.exhaust k).power = s.power ∧
    (s.exhaust k).rstnLow = s.rstnLow ∧
    (s.exhaust k).freeDraws = s.freeDraws ∧
    (s.exhaust k).pending = s.pending := by
  simp only [State.exhaust]
  (repeat' split) <;> simp

@[simp] theorem State.takeLapseGather_keeps (s : State) (source : Position) (k : StepIx) :
    (s.takeLapseGather source k).front.timeBase = s.front.timeBase ∧
    (s.takeLapseGather source k).front.mtp = s.front.mtp ∧
    (s.takeLapseGather source k).front.planSetting = s.front.planSetting ∧
    (s.takeLapseGather source k).front.input = s.front.input ∧
    (s.takeLapseGather source k).front.candidate = s.front.candidate ∧
    (s.takeLapseGather source k).front.releaseTime = s.front.releaseTime ∧
    (s.takeLapseGather source k).front.lastPulse = s.front.lastPulse ∧
    (s.takeLapseGather source k).front.lastPeriod = s.front.lastPeriod ∧
    (s.takeLapseGather source k).front.counter = s.front.counter ∧
    (s.takeLapseGather source k).front.refSeen = s.front.refSeen ∧
    (s.takeLapseGather source k).front.loop = s.front.loop ∧
    (s.takeLapseGather source k).plan = s.plan ∧
    (s.takeLapseGather source k).line.strap = s.line.strap ∧
    (s.takeLapseGather source k).line.link = s.line.link ∧
    (s.takeLapseGather source k).line.phase = s.line.phase ∧
    (s.takeLapseGather source k).line.endSlot = s.line.endSlot ∧
    (s.takeLapseGather source k).line.gapEnd = s.line.gapEnd ∧
    (s.takeLapseGather source k).line.recessiveSince = s.line.recessiveSince ∧
    (s.takeLapseGather source k).line.receive = s.line.receive ∧
    (s.takeLapseGather source k).line.transmit = s.line.transmit ∧
    (s.takeLapseGather source k).line.role = s.line.role ∧
    (s.takeLapseGather source k).line.abortDriven = s.line.abortDriven ∧
    (s.takeLapseGather source k).coord.step = s.coord.step ∧
    (s.takeLapseGather source k).coord.source = s.coord.source ∧
    (s.takeLapseGather source k).coord.stage = s.coord.stage ∧
    (s.takeLapseGather source k).coord.home = s.coord.home ∧
    (s.takeLapseGather source k).coord.remembered = s.coord.remembered ∧
    (s.takeLapseGather source k).coord.windowEnd = s.coord.windowEnd ∧
    (s.takeLapseGather source k).coord.results = s.coord.results ∧
    (s.takeLapseGather source k).coord.expired = s.coord.expired ∧
    (s.takeLapseGather source k).coord.suspension = s.coord.suspension ∧
    (s.takeLapseGather source k).coord.holds = s.coord.holds ∧
    (s.takeLapseGather source k).coord.restarts = s.coord.restarts ∧
    (s.takeLapseGather source k).coord.runHolds = s.coord.runHolds ∧
    (s.takeLapseGather source k).coord.runRestarts = s.coord.runRestarts ∧
    (s.takeLapseGather source k).closure = s.closure ∧
    (s.takeLapseGather source k).power = s.power ∧
    (s.takeLapseGather source k).rstnLow = s.rstnLow ∧
    (s.takeLapseGather source k).freeDraws = s.freeDraws ∧
    (s.takeLapseGather source k).pending = s.pending := by
  simp only [State.takeLapseGather]
  (repeat' split) <;> simp

@[simp] theorem State.reportOwn_keeps (s : State) (k : StepIx) (v : Verdict) :
    (s.reportOwn k v).front.timeBase = s.front.timeBase ∧
    (s.reportOwn k v).front.mtp = s.front.mtp ∧
    (s.reportOwn k v).front.planSetting = s.front.planSetting ∧
    (s.reportOwn k v).front.input = s.front.input ∧
    (s.reportOwn k v).front.candidate = s.front.candidate ∧
    (s.reportOwn k v).front.releaseTime = s.front.releaseTime ∧
    (s.reportOwn k v).front.lastPulse = s.front.lastPulse ∧
    (s.reportOwn k v).front.lastPeriod = s.front.lastPeriod ∧
    (s.reportOwn k v).front.refSeen = s.front.refSeen ∧
    (s.reportOwn k v).front.loop = s.front.loop ∧
    (s.reportOwn k v).plan = s.plan ∧
    (s.reportOwn k v).line.strap = s.line.strap ∧
    (s.reportOwn k v).line.link = s.line.link ∧
    (s.reportOwn k v).line.phase = s.line.phase ∧
    (s.reportOwn k v).line.endSlot = s.line.endSlot ∧
    (s.reportOwn k v).line.gapEnd = s.line.gapEnd ∧
    (s.reportOwn k v).line.recessiveSince = s.line.recessiveSince ∧
    (s.reportOwn k v).line.receive = s.line.receive ∧
    (s.reportOwn k v).line.transmit = s.line.transmit ∧
    (s.reportOwn k v).line.role = s.line.role ∧
    (s.reportOwn k v).line.abortDriven = s.line.abortDriven ∧
    (s.reportOwn k v).coord.source = s.coord.source ∧
    (s.reportOwn k v).coord.stage = s.coord.stage ∧
    (s.reportOwn k v).coord.home = s.coord.home ∧
    (s.reportOwn k v).coord.remembered = s.coord.remembered ∧
    (s.reportOwn k v).coord.windowEnd = s.coord.windowEnd ∧
    (s.reportOwn k v).coord.results = s.coord.results ∧
    (s.reportOwn k v).coord.runHolds = s.coord.runHolds ∧
    (s.reportOwn k v).coord.runRestarts = s.coord.runRestarts ∧
    (s.reportOwn k v).closure = s.closure ∧
    (s.reportOwn k v).power = s.power ∧
    (s.reportOwn k v).rstnLow = s.rstnLow ∧
    (s.reportOwn k v).freeDraws = s.freeDraws ∧
    (s.reportOwn k v).pending = s.pending := by
  simp only [State.reportOwn]
  simp

@[simp] theorem State.takePeerDone_keeps (s : State) (source : Position) (k : StepIx) (v : Verdict) :
    (s.takePeerDone source k v).front.timeBase = s.front.timeBase ∧
    (s.takePeerDone source k v).front.mtp = s.front.mtp ∧
    (s.takePeerDone source k v).front.planSetting = s.front.planSetting ∧
    (s.takePeerDone source k v).front.input = s.front.input ∧
    (s.takePeerDone source k v).front.candidate = s.front.candidate ∧
    (s.takePeerDone source k v).front.releaseTime = s.front.releaseTime ∧
    (s.takePeerDone source k v).front.lastPulse = s.front.lastPulse ∧
    (s.takePeerDone source k v).front.lastPeriod = s.front.lastPeriod ∧
    (s.takePeerDone source k v).front.refSeen = s.front.refSeen ∧
    (s.takePeerDone source k v).front.loop = s.front.loop ∧
    (s.takePeerDone source k v).plan = s.plan ∧
    (s.takePeerDone source k v).line.strap = s.line.strap ∧
    (s.takePeerDone source k v).line.link = s.line.link ∧
    (s.takePeerDone source k v).line.phase = s.line.phase ∧
    (s.takePeerDone source k v).line.endSlot = s.line.endSlot ∧
    (s.takePeerDone source k v).line.gapEnd = s.line.gapEnd ∧
    (s.takePeerDone source k v).line.recessiveSince = s.line.recessiveSince ∧
    (s.takePeerDone source k v).line.receive = s.line.receive ∧
    (s.takePeerDone source k v).line.transmit = s.line.transmit ∧
    (s.takePeerDone source k v).line.role = s.line.role ∧
    (s.takePeerDone source k v).line.abortDriven = s.line.abortDriven ∧
    (s.takePeerDone source k v).coord.source = s.coord.source ∧
    (s.takePeerDone source k v).coord.stage = s.coord.stage ∧
    (s.takePeerDone source k v).coord.home = s.coord.home ∧
    (s.takePeerDone source k v).coord.remembered = s.coord.remembered ∧
    (s.takePeerDone source k v).coord.windowEnd = s.coord.windowEnd ∧
    (s.takePeerDone source k v).coord.results = s.coord.results ∧
    (s.takePeerDone source k v).coord.runHolds = s.coord.runHolds ∧
    (s.takePeerDone source k v).coord.runRestarts = s.coord.runRestarts ∧
    (s.takePeerDone source k v).closure = s.closure ∧
    (s.takePeerDone source k v).power = s.power ∧
    (s.takePeerDone source k v).rstnLow = s.rstnLow ∧
    (s.takePeerDone source k v).freeDraws = s.freeDraws ∧
    (s.takePeerDone source k v).pending = s.pending := by
  simp only [State.takePeerDone]
  (repeat' split) <;> simp

@[simp] theorem State.openAwake_keeps (s : State) :
    (s.openAwake).front.timeBase = s.front.timeBase ∧
    (s.openAwake).front.mtp = s.front.mtp ∧
    (s.openAwake).front.planSetting = s.front.planSetting ∧
    (s.openAwake).front.input = s.front.input ∧
    (s.openAwake).front.candidate = s.front.candidate ∧
    (s.openAwake).front.releaseTime = s.front.releaseTime ∧
    (s.openAwake).front.lastPulse = s.front.lastPulse ∧
    (s.openAwake).front.lastPeriod = s.front.lastPeriod ∧
    (s.openAwake).front.refSeen = s.front.refSeen ∧
    (s.openAwake).front.loop = s.front.loop ∧
    (s.openAwake).plan = s.plan ∧
    (s.openAwake).line.strap = s.line.strap ∧
    (s.openAwake).line.link = s.line.link ∧
    (s.openAwake).line.phase = s.line.phase ∧
    (s.openAwake).line.endSlot = s.line.endSlot ∧
    (s.openAwake).line.gapEnd = s.line.gapEnd ∧
    (s.openAwake).line.recessiveSince = s.line.recessiveSince ∧
    (s.openAwake).line.receive = s.line.receive ∧
    (s.openAwake).line.transmit = s.line.transmit ∧
    (s.openAwake).line.role = s.line.role ∧
    (s.openAwake).line.abortDriven = s.line.abortDriven ∧
    (s.openAwake).coord.source = s.coord.source ∧
    (s.openAwake).coord.runHolds = s.coord.runHolds ∧
    (s.openAwake).coord.runRestarts = s.coord.runRestarts ∧
    (s.openAwake).power.clamp = s.power.clamp ∧
    (s.openAwake).power.selfTest = s.power.selfTest ∧
    (s.openAwake).rstnLow = s.rstnLow ∧
    (s.openAwake).freeDraws = s.freeDraws ∧
    (s.openAwake).pending = s.pending := by
  simp only [State.openAwake]
  simp

@[simp] theorem State.strikeSelected_keeps (s : State) (sel : Selector) (reason : StrikeReason) :
    (s.strikeSelected sel reason).front.timeBase = s.front.timeBase ∧
    (s.strikeSelected sel reason).front.mtp = s.front.mtp ∧
    (s.strikeSelected sel reason).front.planSetting = s.front.planSetting ∧
    (s.strikeSelected sel reason).front.input = s.front.input ∧
    (s.strikeSelected sel reason).front.candidate = s.front.candidate ∧
    (s.strikeSelected sel reason).front.releaseTime = s.front.releaseTime ∧
    (s.strikeSelected sel reason).front.lastPulse = s.front.lastPulse ∧
    (s.strikeSelected sel reason).front.lastPeriod = s.front.lastPeriod ∧
    (s.strikeSelected sel reason).front.refSeen = s.front.refSeen ∧
    (s.strikeSelected sel reason).front.loop = s.front.loop ∧
    (s.strikeSelected sel reason).plan = s.plan ∧
    (s.strikeSelected sel reason).line.strap = s.line.strap ∧
    (s.strikeSelected sel reason).line.link = s.line.link ∧
    (s.strikeSelected sel reason).line.phase = s.line.phase ∧
    (s.strikeSelected sel reason).line.endSlot = s.line.endSlot ∧
    (s.strikeSelected sel reason).line.gapEnd = s.line.gapEnd ∧
    (s.strikeSelected sel reason).line.recessiveSince = s.line.recessiveSince ∧
    (s.strikeSelected sel reason).line.receive = s.line.receive ∧
    (s.strikeSelected sel reason).line.transmit = s.line.transmit ∧
    (s.strikeSelected sel reason).line.role = s.line.role ∧
    (s.strikeSelected sel reason).line.abortDriven = s.line.abortDriven ∧
    (s.strikeSelected sel reason).coord.source = s.coord.source ∧
    (s.strikeSelected sel reason).coord.stage = s.coord.stage ∧
    (s.strikeSelected sel reason).coord.home = s.coord.home ∧
    (s.strikeSelected sel reason).coord.remembered = s.coord.remembered ∧
    (s.strikeSelected sel reason).coord.windowEnd = s.coord.windowEnd ∧
    (s.strikeSelected sel reason).coord.results = s.coord.results ∧
    (s.strikeSelected sel reason).coord.runHolds = s.coord.runHolds ∧
    (s.strikeSelected sel reason).coord.runRestarts = s.coord.runRestarts ∧
    (s.strikeSelected sel reason).closure = s.closure ∧
    (s.strikeSelected sel reason).power = s.power ∧
    (s.strikeSelected sel reason).rstnLow = s.rstnLow ∧
    (s.strikeSelected sel reason).freeDraws = s.freeDraws ∧
    (s.strikeSelected sel reason).pending = s.pending := by
  simp only [State.strikeSelected]
  (repeat' split) <;> simp

@[simp] theorem State.disturbStep_keeps (s : State) (k : StepIx) :
    (s.disturbStep k).front.timeBase = s.front.timeBase ∧
    (s.disturbStep k).front.mtp = s.front.mtp ∧
    (s.disturbStep k).front.planSetting = s.front.planSetting ∧
    (s.disturbStep k).front.input = s.front.input ∧
    (s.disturbStep k).front.candidate = s.front.candidate ∧
    (s.disturbStep k).front.releaseTime = s.front.releaseTime ∧
    (s.disturbStep k).front.lastPulse = s.front.lastPulse ∧
    (s.disturbStep k).front.lastPeriod = s.front.lastPeriod ∧
    (s.disturbStep k).front.refSeen = s.front.refSeen ∧
    (s.disturbStep k).front.loop = s.front.loop ∧
    (s.disturbStep k).plan = s.plan ∧
    (s.disturbStep k).line.strap = s.line.strap ∧
    (s.disturbStep k).line.link = s.line.link ∧
    (s.disturbStep k).line.phase = s.line.phase ∧
    (s.disturbStep k).line.endSlot = s.line.endSlot ∧
    (s.disturbStep k).line.gapEnd = s.line.gapEnd ∧
    (s.disturbStep k).line.recessiveSince = s.line.recessiveSince ∧
    (s.disturbStep k).line.receive = s.line.receive ∧
    (s.disturbStep k).line.transmit = s.line.transmit ∧
    (s.disturbStep k).line.role = s.line.role ∧
    (s.disturbStep k).line.abortDriven = s.line.abortDriven ∧
    (s.disturbStep k).coord.source = s.coord.source ∧
    (s.disturbStep k).coord.stage = s.coord.stage ∧
    (s.disturbStep k).coord.home = s.coord.home ∧
    (s.disturbStep k).coord.remembered = s.coord.remembered ∧
    (s.disturbStep k).coord.windowEnd = s.coord.windowEnd ∧
    (s.disturbStep k).coord.runHolds = s.coord.runHolds ∧
    (s.disturbStep k).coord.runRestarts = s.coord.runRestarts ∧
    (s.disturbStep k).closure = s.closure ∧
    (s.disturbStep k).power = s.power ∧
    (s.disturbStep k).rstnLow = s.rstnLow ∧
    (s.disturbStep k).freeDraws = s.freeDraws ∧
    (s.disturbStep k).pending = s.pending := by
  simp only [State.disturbStep]
  (repeat' split) <;> simp

@[simp] theorem State.takeOwnDone_keeps (s : State) (k : StepIx) (v : Verdict) :
    (s.takeOwnDone k v).front.timeBase = s.front.timeBase ∧
    (s.takeOwnDone k v).front.mtp = s.front.mtp ∧
    (s.takeOwnDone k v).front.planSetting = s.front.planSetting ∧
    (s.takeOwnDone k v).front.input = s.front.input ∧
    (s.takeOwnDone k v).front.candidate = s.front.candidate ∧
    (s.takeOwnDone k v).front.releaseTime = s.front.releaseTime ∧
    (s.takeOwnDone k v).front.lastPulse = s.front.lastPulse ∧
    (s.takeOwnDone k v).front.lastPeriod = s.front.lastPeriod ∧
    (s.takeOwnDone k v).front.refSeen = s.front.refSeen ∧
    (s.takeOwnDone k v).front.loop = s.front.loop ∧
    (s.takeOwnDone k v).plan = s.plan ∧
    (s.takeOwnDone k v).line.strap = s.line.strap ∧
    (s.takeOwnDone k v).line.link = s.line.link ∧
    (s.takeOwnDone k v).line.phase = s.line.phase ∧
    (s.takeOwnDone k v).line.endSlot = s.line.endSlot ∧
    (s.takeOwnDone k v).line.gapEnd = s.line.gapEnd ∧
    (s.takeOwnDone k v).line.recessiveSince = s.line.recessiveSince ∧
    (s.takeOwnDone k v).line.receive = s.line.receive ∧
    (s.takeOwnDone k v).line.transmit = s.line.transmit ∧
    (s.takeOwnDone k v).line.role = s.line.role ∧
    (s.takeOwnDone k v).line.abortDriven = s.line.abortDriven ∧
    (s.takeOwnDone k v).coord.source = s.coord.source ∧
    (s.takeOwnDone k v).coord.stage = s.coord.stage ∧
    (s.takeOwnDone k v).coord.home = s.coord.home ∧
    (s.takeOwnDone k v).coord.remembered = s.coord.remembered ∧
    (s.takeOwnDone k v).coord.windowEnd = s.coord.windowEnd ∧
    (s.takeOwnDone k v).coord.results = s.coord.results ∧
    (s.takeOwnDone k v).coord.runHolds = s.coord.runHolds ∧
    (s.takeOwnDone k v).coord.runRestarts = s.coord.runRestarts ∧
    (s.takeOwnDone k v).closure = s.closure ∧
    (s.takeOwnDone k v).power = s.power ∧
    (s.takeOwnDone k v).rstnLow = s.rstnLow ∧
    (s.takeOwnDone k v).freeDraws = s.freeDraws ∧
    (s.takeOwnDone k v).pending = s.pending := by
  simp only [State.takeOwnDone]
  (repeat' split) <;> simp

@[simp] theorem State.takeParked_keeps (s : State) (source : Position) (reason : ParkedReason) :
    (s.takeParked source reason).front.timeBase = s.front.timeBase ∧
    (s.takeParked source reason).front.mtp = s.front.mtp ∧
    (s.takeParked source reason).front.planSetting = s.front.planSetting ∧
    (s.takeParked source reason).front.input = s.front.input ∧
    (s.takeParked source reason).front.candidate = s.front.candidate ∧
    (s.takeParked source reason).front.releaseTime = s.front.releaseTime ∧
    (s.takeParked source reason).front.lastPulse = s.front.lastPulse ∧
    (s.takeParked source reason).front.lastPeriod = s.front.lastPeriod ∧
    (s.takeParked source reason).front.refSeen = s.front.refSeen ∧
    (s.takeParked source reason).front.loop = s.front.loop ∧
    (s.takeParked source reason).plan = s.plan ∧
    (s.takeParked source reason).line.strap = s.line.strap ∧
    (s.takeParked source reason).line.link = s.line.link ∧
    (s.takeParked source reason).line.phase = s.line.phase ∧
    (s.takeParked source reason).line.endSlot = s.line.endSlot ∧
    (s.takeParked source reason).line.gapEnd = s.line.gapEnd ∧
    (s.takeParked source reason).line.recessiveSince = s.line.recessiveSince ∧
    (s.takeParked source reason).line.receive = s.line.receive ∧
    (s.takeParked source reason).line.transmit = s.line.transmit ∧
    (s.takeParked source reason).line.role = s.line.role ∧
    (s.takeParked source reason).line.abortDriven = s.line.abortDriven ∧
    (s.takeParked source reason).coord.source = s.coord.source ∧
    (s.takeParked source reason).coord.stage = s.coord.stage ∧
    (s.takeParked source reason).coord.home = s.coord.home ∧
    (s.takeParked source reason).coord.remembered = s.coord.remembered ∧
    (s.takeParked source reason).coord.windowEnd = s.coord.windowEnd ∧
    (s.takeParked source reason).coord.results = s.coord.results ∧
    (s.takeParked source reason).coord.runHolds = s.coord.runHolds ∧
    (s.takeParked source reason).coord.runRestarts = s.coord.runRestarts ∧
    (s.takeParked source reason).closure = s.closure ∧
    (s.takeParked source reason).power = s.power ∧
    (s.takeParked source reason).rstnLow = s.rstnLow ∧
    (s.takeParked source reason).freeDraws = s.freeDraws ∧
    (s.takeParked source reason).pending = s.pending := by
  simp only [State.takeParked]
  (repeat' split) <;> simp

@[simp] theorem State.actOnOpening_keeps (s : State) :
    (s.actOnOpening).plan = s.plan ∧
    (s.actOnOpening).line.strap = s.line.strap ∧
    (s.actOnOpening).line.link = s.line.link ∧
    (s.actOnOpening).line.phase = s.line.phase ∧
    (s.actOnOpening).line.endSlot = s.line.endSlot ∧
    (s.actOnOpening).line.gapEnd = s.line.gapEnd ∧
    (s.actOnOpening).line.recessiveSince = s.line.recessiveSince ∧
    (s.actOnOpening).line.receive = s.line.receive ∧
    (s.actOnOpening).line.transmit = s.line.transmit ∧
    (s.actOnOpening).line.role = s.line.role ∧
    (s.actOnOpening).line.abortDriven = s.line.abortDriven ∧
    (s.actOnOpening).coord.source = s.coord.source ∧
    (s.actOnOpening).coord.runHolds = s.coord.runHolds ∧
    (s.actOnOpening).coord.runRestarts = s.coord.runRestarts ∧
    (s.actOnOpening).power.clamp = s.power.clamp ∧
    (s.actOnOpening).power.selfTest = s.power.selfTest ∧
    (s.actOnOpening).rstnLow = s.rstnLow ∧
    (s.actOnOpening).freeDraws = s.freeDraws ∧
    (s.actOnOpening).pending = s.pending := by
  simp only [State.actOnOpening]
  (repeat' split) <;> simp

@[simp] theorem State.takeDisturbed_keeps (s : State) :
    (s.takeDisturbed).front.timeBase = s.front.timeBase ∧
    (s.takeDisturbed).front.mtp = s.front.mtp ∧
    (s.takeDisturbed).front.planSetting = s.front.planSetting ∧
    (s.takeDisturbed).front.input = s.front.input ∧
    (s.takeDisturbed).front.candidate = s.front.candidate ∧
    (s.takeDisturbed).front.releaseTime = s.front.releaseTime ∧
    (s.takeDisturbed).front.lastPulse = s.front.lastPulse ∧
    (s.takeDisturbed).front.lastPeriod = s.front.lastPeriod ∧
    (s.takeDisturbed).front.refSeen = s.front.refSeen ∧
    (s.takeDisturbed).front.loop = s.front.loop ∧
    (s.takeDisturbed).plan = s.plan ∧
    (s.takeDisturbed).line.strap = s.line.strap ∧
    (s.takeDisturbed).line.link = s.line.link ∧
    (s.takeDisturbed).line.phase = s.line.phase ∧
    (s.takeDisturbed).line.endSlot = s.line.endSlot ∧
    (s.takeDisturbed).line.gapEnd = s.line.gapEnd ∧
    (s.takeDisturbed).line.recessiveSince = s.line.recessiveSince ∧
    (s.takeDisturbed).line.receive = s.line.receive ∧
    (s.takeDisturbed).line.transmit = s.line.transmit ∧
    (s.takeDisturbed).line.role = s.line.role ∧
    (s.takeDisturbed).line.abortDriven = s.line.abortDriven ∧
    (s.takeDisturbed).coord.stage = s.coord.stage ∧
    (s.takeDisturbed).coord.home = s.coord.home ∧
    (s.takeDisturbed).coord.remembered = s.coord.remembered ∧
    (s.takeDisturbed).coord.windowEnd = s.coord.windowEnd ∧
    (s.takeDisturbed).coord.runHolds = s.coord.runHolds ∧
    (s.takeDisturbed).coord.runRestarts = s.coord.runRestarts ∧
    (s.takeDisturbed).closure = s.closure ∧
    (s.takeDisturbed).power = s.power ∧
    (s.takeDisturbed).rstnLow = s.rstnLow ∧
    (s.takeDisturbed).freeDraws = s.freeDraws ∧
    (s.takeDisturbed).pending = s.pending := by
  simp only [State.takeDisturbed]
  (repeat' split) <;> simp

@[simp] theorem State.takeDone_keeps (s : State) (source : Position) (k : StepIx) (v : Verdict) :
    (s.takeDone source k v).front.timeBase = s.front.timeBase ∧
    (s.takeDone source k v).front.mtp = s.front.mtp ∧
    (s.takeDone source k v).front.planSetting = s.front.planSetting ∧
    (s.takeDone source k v).front.input = s.front.input ∧
    (s.takeDone source k v).front.candidate = s.front.candidate ∧
    (s.takeDone source k v).front.releaseTime = s.front.releaseTime ∧
    (s.takeDone source k v).front.lastPulse = s.front.lastPulse ∧
    (s.takeDone source k v).front.lastPeriod = s.front.lastPeriod ∧
    (s.takeDone source k v).front.refSeen = s.front.refSeen ∧
    (s.takeDone source k v).front.loop = s.front.loop ∧
    (s.takeDone source k v).plan = s.plan ∧
    (s.takeDone source k v).line.strap = s.line.strap ∧
    (s.takeDone source k v).line.link = s.line.link ∧
    (s.takeDone source k v).line.phase = s.line.phase ∧
    (s.takeDone source k v).line.endSlot = s.line.endSlot ∧
    (s.takeDone source k v).line.gapEnd = s.line.gapEnd ∧
    (s.takeDone source k v).line.recessiveSince = s.line.recessiveSince ∧
    (s.takeDone source k v).line.receive = s.line.receive ∧
    (s.takeDone source k v).line.transmit = s.line.transmit ∧
    (s.takeDone source k v).line.role = s.line.role ∧
    (s.takeDone source k v).line.abortDriven = s.line.abortDriven ∧
    (s.takeDone source k v).coord.source = s.coord.source ∧
    (s.takeDone source k v).coord.stage = s.coord.stage ∧
    (s.takeDone source k v).coord.home = s.coord.home ∧
    (s.takeDone source k v).coord.remembered = s.coord.remembered ∧
    (s.takeDone source k v).coord.windowEnd = s.coord.windowEnd ∧
    (s.takeDone source k v).coord.results = s.coord.results ∧
    (s.takeDone source k v).coord.runHolds = s.coord.runHolds ∧
    (s.takeDone source k v).coord.runRestarts = s.coord.runRestarts ∧
    (s.takeDone source k v).closure = s.closure ∧
    (s.takeDone source k v).power = s.power ∧
    (s.takeDone source k v).rstnLow = s.rstnLow ∧
    (s.takeDone source k v).freeDraws = s.freeDraws ∧
    (s.takeDone source k v).pending = s.pending := by
  simp only [State.takeDone]
  (repeat' split) <;> simp

@[simp] theorem State.clampOpens_keeps (s : State) :
    (s.clampOpens).plan = s.plan ∧
    (s.clampOpens).line.strap = s.line.strap ∧
    (s.clampOpens).line.link = s.line.link ∧
    (s.clampOpens).line.phase = s.line.phase ∧
    (s.clampOpens).line.endSlot = s.line.endSlot ∧
    (s.clampOpens).line.gapEnd = s.line.gapEnd ∧
    (s.clampOpens).line.recessiveSince = s.line.recessiveSince ∧
    (s.clampOpens).line.receive = s.line.receive ∧
    (s.clampOpens).line.transmit = s.line.transmit ∧
    (s.clampOpens).line.role = s.line.role ∧
    (s.clampOpens).line.abortDriven = s.line.abortDriven ∧
    (s.clampOpens).coord.source = s.coord.source ∧
    (s.clampOpens).coord.runHolds = s.coord.runHolds ∧
    (s.clampOpens).coord.runRestarts = s.coord.runRestarts ∧
    (s.clampOpens).power.selfTest = s.power.selfTest ∧
    (s.clampOpens).rstnLow = s.rstnLow ∧
    (s.clampOpens).freeDraws = s.freeDraws ∧
    (s.clampOpens).pending = s.pending := by
  simp only [State.clampOpens]
  (repeat' split) <;> simp

end Sys2Proof.Machine
end

