-- ==== Sys2Proof/Laws/Delivery.lean ====
section
/-! SUPPORT. How a command reaches the station: one lemma for each way (after a time, at a local event, as a console
frame, a source frame, a peer's frame, the own frame), from the vocabulary of Safety.lean. Proofs about a command start
with one of these and then work on the state `u` alone. -/

namespace Sys2Proof.Machine

/-! ## Time -/

theorem State.firstDue_quiet (s : State) (t : Nat) (h : ∀ e, s.dueBefore t e = false) : s.firstDue t = none := by
  have hf : LocalEvent.all.filter (s.dueBefore t) = [] := by
    apply List.filter_eq_nil_iff.2
    intro e _
    simp [h e]
  simp [State.firstDue, hf]

theorem State.passTo_quiet (n : Nat) (s : State) (t : Nat) (h : ∀ e, s.dueBefore t e = false) :
    State.passTo (n + 1) t s = s.setTime t := by
  simp [State.passTo, s.firstDue_quiet t h]

/-- Time passes in which no local event is due. -/
theorem State.elapse_quiet (s : State) (dt : Nat) (hr : s.rstnLow = false)
    (h : ∀ e, s.dueBefore (s.now + dt) e = false) : s.elapse dt = s.setTime (s.now + dt) := by
  simp [State.elapse, hr, Config.eventFuel, State.passTo_quiet _ s _ h]

@[simp] theorem State.elapse_rstnLow (s : State) (dt : Nat) (hr : s.rstnLow = true) : s.elapse dt = s := by
  simp [State.elapse, hr]

@[simp] theorem State.setTime_now (s : State) (t : Nat) : (s.setTime t).now = max s.now t := by
  simp [State.setTime, State.now, State.mapFront, State.mapLine]

theorem State.setTime_due (s : State) (t : Nat) (e : LocalEvent) (hb : e ≠ .loopBurstStart) : (s.setTime t).due e = s.due e := by
  cases e <;> first | (exact absurd rfl hb) | rfl

/-- The burst start stays due while its instant is not past. -/
theorem State.setTime_burstDue (s : State) (t d : Nat) (h : s.now ≤ t) (ht : t ≤ d) (hd : s.burstDue = some d) :
    (s.setTime t).burstDue = some d := by
  have hn := s.setTime_now t
  unfold State.burstDue at hd ⊢
  have hp : (s.setTime t).power = s.power := rfl
  have hl : (s.setTime t).front.loop = s.front.loop := rfl
  rw [hp, hl, hn]
  revert hd
  cases hw : s.power.wakeStart with
  | none => simp
  | some w =>
    simp only
    split
    · intro hd
      have hwd : w + Config.burstDelay = d := by simpa using hd
      rename_i hc
      rw [if_pos ⟨hc.1, hc.2.1, by omega⟩, hwd]
    · intro hd
      exact absurd hd (by simp)

/-- A command that carries `after` acts on the state in which it reaches the station. -/
theorem State.atEvent_reaches (s u : State) (after : Nat) (f : State → State) (h : s.reaches after u) :
    s.atEvent after f = .next (f u) := by
  obtain ⟨hr, rfl⟩ := h
  simp [State.atEvent, hr]

/-- A local event that is next acts on the state at its instant. -/
theorem State.atLocal_meets (s u : State) (e : LocalEvent) (h : s.meets e u) : s.atLocal e = .next (u.fire e) := by
  obtain ⟨hr, hd, hle, hq, hu⟩ := h
  have hmax : max s.now u.now = u.now := by omega
  have hpass : State.passTo Config.eventFuel u.now s = u := by
    rw [show Config.eventFuel = 63 + 1 from rfl, State.passTo_quiet 63 s u.now hq, ← hu]
  have hdue : u.due e = some u.now := by
    by_cases hb : e = .loopBurstStart
    · subst hb
      have := s.setTime_burstDue u.now u.now hle (Nat.le_refl _) hd
      rw [← hu] at this
      exact this
    · have := s.setTime_due u.now e hb
      rw [← hu] at this
      rw [this, hd]
  simp [State.atLocal, hr, State.atDue, hd, hmax, hpass, State.dueNow, State.dueBefore, hdue]

/-! ## Local events on the way -/

/-- R114: the common start takes no time. -/
theorem State.commonStart_timeBase (s : State) (t0 : Nat) (quiet : Bool) :
    (s.commonStart t0 quiet).front.timeBase = s.front.timeBase := by
  have hg : ∀ u : State, u.startGate.front.timeBase = u.front.timeBase := by
    intro u
    unfold State.startGate
    split <;> rfl
  unfold State.commonStart State.startStep State.startMeasurement
  (repeat' split) <;> simp [hg]

/-- A local event takes no time and leaves the queue of commands alone. -/
theorem State.fire_keeps (s : State) (e : LocalEvent) :
    (s.fire e).now = s.now ∧ (s.fire e).rstnLow = s.rstnLow ∧ (s.fire e).freeDraws = s.freeDraws
      ∧ (s.fire e).pending = s.pending := by
  cases e <;> simp [State.fire, State.now]
  · unfold State.acceptPulse
    split <;> simp [FrontEnd.accept]
  · unfold State.expireWait
    split <;> simp [State.commonStart_timeBase]
  · simp [State.startBurst, FrontEnd.loopStart, FrontEnd.restartFilter, FrontEnd.resetPeriod]
  · simp [State.endBurst, FrontEnd.loopOff, FrontEnd.restartIfChanged, FrontEnd.restartFilter, FrontEnd.resetPeriod]
    split <;> rfl

/-- Where a local event is due now, one of those due is taken. -/
theorem State.takeDue_fires (s : State) (e : LocalEvent) (h : s.dueNow e = true) :
    ∃ e' n, s.dueNow e' = true ∧ s.takeDue = { s with freeDraws := n }.fire e' := by
  have hall : ∀ x : LocalEvent, x ∈ LocalEvent.all := by intro x; cases x <;> decide
  have hmem : e ∈ LocalEvent.all.filter s.dueNow := List.mem_filter.2 ⟨hall e, h⟩
  unfold State.takeDue
  generalize hl : LocalEvent.all.filter s.dueNow = due
  rw [hl] at hmem
  have hd : ∀ x ∈ due, s.dueNow x = true := fun x hx => (List.mem_filter.1 (hl ▸ hx)).2
  match due, hmem, hd with
  | [x], _, hd => exact ⟨x, s.freeDraws, hd x (by simp), rfl⟩
  | x :: y :: rest, _, hd =>
    refine ⟨_, s.freeDraws + 1, hd ((x :: y :: rest).getD (Config.freeOrder s.freeDraws % ((y :: rest).length + 1)) x) ?_, rfl⟩
    have hlt : Config.freeOrder s.freeDraws % ((y :: rest).length + 1) < (x :: y :: rest).length :=
      Nat.mod_lt _ (by simp)
    rw [List.getD_eq_getElem _ _ hlt]
    exact List.getElem_mem hlt

theorem State.takeDue_keeps (s : State) :
    s.takeDue.now = s.now ∧ s.takeDue.rstnLow = s.rstnLow ∧ s.takeDue.pending = s.pending := by
  unfold State.takeDue
  split
  · simp
  · exact ⟨(s.fire_keeps _).1, (s.fire_keeps _).2.1, (s.fire_keeps _).2.2.2⟩
  · have k := fun x => State.fire_keeps { s with freeDraws := s.freeDraws + 1 } x
    exact ⟨(k _).1, (k _).2.1, (k _).2.2.2⟩

/-- The passing of time leaves RSTN and the queue of commands alone. -/
theorem State.passTo_keeps (n t : Nat) (s : State) :
    (State.passTo n t s).rstnLow = s.rstnLow ∧ (State.passTo n t s).pending = s.pending := by
  induction n generalizing s with
  | zero => simp [State.passTo]
  | succ n ih =>
    unfold State.passTo
    split
    · exact ⟨rfl, rfl⟩
    · rename_i d _
      have h := ih (s.setTime d).takeDue
      rw [h.1, h.2, ((s.setTime d).takeDue_keeps).2.1, ((s.setTime d).takeDue_keeps).2.2]
      exact ⟨rfl, rfl⟩

@[simp] theorem State.elapse_keeps (s : State) (dt : Nat) :
    (s.elapse dt).rstnLow = s.rstnLow ∧ (s.elapse dt).pending = s.pending := by
  unfold State.elapse
  split
  · exact ⟨rfl, rfl⟩
  · exact State.passTo_keeps _ _ _

theorem earlier_of_le (m : Option Nat) (d : Nat) (h : ∀ x, m = some x → d ≤ x) : earlier m (some d) = some d := by
  cases m with
  | none => rfl
  | some x => simp [earlier, Nat.min_eq_right (h x rfl)]

/-- The earliest of a list of instants that hold none before `d` and hold `d`. -/
theorem foldl_earlier (f : LocalEvent → Option Nat) (d : Nat) (l : List LocalEvent) (m : Option Nat)
    (hl : ∀ e ∈ l, ∃ x, f e = some x ∧ d ≤ x) (hm : ∀ x, m = some x → d ≤ x)
    (hd : m = some d ∨ ∃ e ∈ l, f e = some d) : l.foldl (fun a e => earlier a (f e)) m = some d := by
  induction l generalizing m with
  | nil => simpa using hd
  | cons a rest ih =>
    obtain ⟨x, hx, hdx⟩ := hl a (by simp)
    apply ih
    · intro e he
      exact hl e (by simp [he])
    · intro y hy
      simp only [hx] at hy
      cases m with
      | none => simp [earlier] at hy; omega
      | some z => have := hm z rfl; simp [earlier] at hy; omega
    · rcases hd with hd | ⟨e, he, hed⟩
      · left; simp only [hd, hx]; simp [earlier]; omega
      · rcases List.mem_cons.1 he with he | he
        · left; subst he; simp only [hed]; exact earlier_of_le m d hm
        · right; exact ⟨e, he, hed⟩

/-- The first due instant before `t`. -/
theorem State.firstDue_eq (s : State) (t d : Nat) (e : LocalEvent) (he : s.due e = some d) (ht : d < t)
    (hq : ∀ e, s.dueBefore d e = false) : s.firstDue t = some d := by
  have hall : ∀ x : LocalEvent, x ∈ LocalEvent.all := by intro x; cases x <;> decide
  unfold State.firstDue
  apply foldl_earlier
  · intro x hx
    have hb := (List.mem_filter.1 hx).2
    have hn := hq x
    unfold State.dueBefore at hb hn
    cases hdx : s.due x with
    | none => simp [hdx] at hb
    | some y => simp [hdx] at hn; exact ⟨y, rfl, hn⟩
  · simp
  · right
    refine ⟨e, List.mem_filter.2 ⟨hall e, ?_⟩, he⟩
    simp [State.dueBefore, he, ht]

/-- Time stops at the earliest due instant and takes a local event there before it goes on (log 2, log 4). -/
theorem State.elapse_stops (s : State) (dt d : Nat) (e : LocalEvent) (hr : s.rstnLow = false) (he : s.due e = some d)
    (hd : d < s.now + dt) (hq : ∀ e, s.dueBefore d e = false) :
    s.elapse dt = State.passTo 63 (s.now + dt) (s.setTime d).takeDue := by
  simp only [State.elapse, hr, Config.eventFuel]
  rw [if_neg (by simp)]
  show State.passTo (63 + 1) _ _ = _
  rw [State.passTo, s.firstDue_eq (s.now + dt) d e he hd hq]

/-! ## Frames -/

theorem State.frameEnds_eq (s : State) : s.frameEnds = s.afterFrame := rfl

/-- A frame acts on the state in which it is taken (R79). -/
theorem State.passFrame_takes (s u : State) (after : Nat) (groups : List Group) (f : State → State)
    (h : s.takes after u) : (s.atEvent after fun t => t.passFrame groups f) = .next (f u) := by
  obtain ⟨hr, ho, rfl⟩ := h
  simp [State.atEvent, hr, State.passFrame, ho.1, ho.2, State.frameEnds_eq]

/-- A JOINING station hears a frame alone (R80). -/
theorem State.passFrame_joining (s u : State) (after : Nat) (groups : List Group) (f : State → State)
    (h : s.reaches after u) (hj : u.line.phase = .joining) :
    (s.atEvent after fun t => t.passFrame groups f) = .next (u.heard groups) := by
  rw [s.atEvent_reaches u after _ h]
  simp [State.passFrame, hj]
  rfl

/-- In STRAP-FAULT the line phase alone follows a frame (R93; log 29). -/
theorem State.passFrame_strapFault (s u : State) (after : Nat) (groups : List Group) (f : State → State)
    (h : s.reaches after u) (hj : u.line.phase ≠ .joining) (hl : u.line.link = .strapFault) :
    (s.atEvent after fun t => t.passFrame groups f) = .next u.afterFrame := by
  rw [s.atEvent_reaches u after _ h]
  simp [State.passFrame, hj, hl, State.frameEnds_eq]

/-- A command that is a whole frame acts as its words pass (R79, R80, R93). -/
theorem exec_eq_passFrame (c : Instr) (words : List Word) (s : State) (h : frameWords c = some words) :
    ∃ f, exec c s = s.atEvent (afterOf c) fun t => t.passFrame (groupsOf words) f := by
  cases c <;> simp only [frameWords, Option.some.injEq, reduceCtorEq] at h
  all_goals subst h
  all_goals
    simp only [exec, execHalt, execResetRun, execResetAll, execPresent, execReady, execHold, execDone, execLapseGather,
      execLapseMeasure, execParked, execReply, State.takeSelective, State.takeStation, State.takeFrame, wordsOfCommand,
      frameWords]
  all_goals exact ⟨_, rfl⟩

/-- A source frame acts on the state in which it is taken. -/
theorem State.takeFrame_takes (s u : State) (after : Nat) (words : List Word) (f : State → State)
    (h : s.takes after u) : (s.atEvent after fun t => t.takeFrame words f) = .next (f u) :=
  s.passFrame_takes u after (groupsOf words) f h

/-- A console frame that matches. -/
theorem State.takeConsole_matching (s u : State) (after : Nat) (words : List Word) (sel : Selector)
    (f : State → State) (h : s.takesMatching after sel u) :
    (s.atEvent after fun t => t.takeConsole words sel f) = .next (f u) := by
  unfold State.takeConsole
  rw [s.takeFrame_takes u after words _ h.1]
  simp [h.2]

/-- A console frame that does not match. -/
theorem State.takeConsole_other (s u : State) (after : Nat) (words : List Word) (sel : Selector)
    (f : State → State) (h : s.takesOther after sel u) :
    (s.atEvent after fun t => t.takeConsole words sel f) = .next u := by
  unfold State.takeConsole
  rw [s.takeFrame_takes u after words _ h.1]
  simp [h.2]

/-- HALT or RESET that matches. -/
theorem State.takeSelective_matching (s u : State) (after : Nat) (words : List Word) (sel : Selector)
    (f g : State → State) (h : s.takesMatching after sel u) :
    (s.atEvent after fun t => t.takeSelective words sel f g) = .next (f u) := by
  unfold State.takeSelective
  rw [s.takeFrame_takes u after words _ h.1]
  simp [h.2]

/-- HALT or RESET that does not match. -/
theorem State.takeSelective_other (s u : State) (after : Nat) (words : List Word) (sel : Selector)
    (f g : State → State) (h : s.takesOther after sel u) :
    (s.atEvent after fun t => t.takeSelective words sel f g) = .next (g u) := by
  unfold State.takeSelective
  rw [s.takeFrame_takes u after words _ h.1]
  simp [h.2]

/-- The frame of a peer. -/
theorem State.takeStation_peer (s u : State) (after : Nat) (source : Position) (f : StationFrame)
    (act : State → State) (h : s.takesPeer after source f u) :
    (s.atEvent after fun t => t.takeStation source f act) = .next (act u) := by
  unfold State.takeStation
  rw [s.takeFrame_takes u after _ _ h.1]
  simp [State.deliver, h.2.1, h.2.2]

/-- The own frame: it leaves the queue, the attempt ends, and it acts. -/
theorem State.takeStation_own (s u : State) (after : Nat) (source : Position) (f : StationFrame)
    (act : State → State) (h : s.takesOwn after source f u) :
    (s.atEvent after fun t => t.takeStation source f act) = .next (act u) := by
  obtain ⟨hr, ho, hf, hs, hrole, ht, rfl⟩ := h
  unfold State.takeStation
  rw [s.takeFrame_takes _ after _ _ ⟨hr, ho, rfl⟩]
  subst hs
  simp [State.deliver, State.afterFrame, LineInterface.sends, hrole, ht, State.ownTaken, State.mapLine,
    LineInterface.endAttempt, hf]

/-- A station frame, be it a peer's or the own. -/
theorem State.takeStation_any (s u : State) (after : Nat) (source : Position) (f : StationFrame)
    (act : State → State) (h : s.takesStation after source f u) :
    (s.atEvent after fun t => t.takeStation source f act) = .next (act u) :=
  h.elim (s.takeStation_peer u after source f act) (s.takeStation_own u after source f act)

end Sys2Proof.Machine
end

