-- ==== Sys2Proof/Laws/Updates.lean ====
section
/-! SUPPORT. What the shared operations leave, each written once as one update of the fields it changes: a choice that an
operation makes stands inside the field it concerns, so that no proof splits a whole state. -/

namespace Sys2Proof.Machine

/-- R117: a LAPSE withdrawn. -/
theorem State.withdrawLapse_eq (s : State) (k : StepIx) (p : LapsePhase) :
    s.withdrawLapse k p =
      { s with line := { s.line with
          queue := { s.line.queue with lapse := if s.line.queue.lapsePending k p then none else s.line.queue.lapse } } } := by
  unfold State.withdrawLapse
  by_cases h : s.line.queue.lapsePending k p = true <;> simp [h, State.mapQueue, State.mapLine]

/-- A request of a station that takes part in the line. -/
theorem State.request_onLine (s : State) (f : OutQueue → OutQueue) (h : s.line.link ≠ .strapFault) :
    s.request f = { s with line := { s.line with queue := f s.line.queue } } := by
  simp [State.request, h, State.mapQueue, State.mapLine]

/-- R52, R115, R117: the deadline of a step in hand moved to a later instant. -/
theorem State.changeDeadline_later (s : State) (k : StepIx) (d : Nat) (hk : s.coord.step = some k) (hd : s.now < d) :
    s.changeDeadline (some d) =
      { s with
        gate := { s.gate with holdLatch := false }
        line := { s.line with
          queue := { s.line.queue with
            hold := none
            lapse := if s.line.queue.lapsePending k .measure then none else s.line.queue.lapse } }
        coord := { s.coord with deadline := some d, expired := false } } := by
  have hr : s.reached (some d) = false := by
    simp [State.reached]
    exact hd
  simp [State.changeDeadline, State.settleLapse, State.expiryAfterChange, hk, hr, State.withdrawLapse_eq,
    State.withdrawHold, State.mapQueue, State.mapLine, State.mapCoord, State.mapGate]

/-- R117, R125, R126: the deadline of a step in hand made absent. -/
theorem State.changeDeadline_none (s : State) (k : StepIx) (hk : s.coord.step = some k) :
    s.changeDeadline none =
      { s with
        gate := { s.gate with holdLatch := false }
        line := { s.line with
          queue := { s.line.queue with
            hold := none
            lapse := if s.line.queue.lapsePending k .measure then none else s.line.queue.lapse } }
        coord := { s.coord with deadline := none, expired := false } } := by
  simp [State.changeDeadline, State.settleLapse, State.expiryAfterChange, hk, State.reached, State.withdrawLapse_eq,
    State.withdrawHold, State.mapQueue, State.mapLine, State.mapCoord, State.mapGate]

/-- R120: a result written, with its DONE, by a station that takes part in the line. -/
theorem State.writeResult_onLine (s : State) (k : StepIx) (v : Verdict) (x : ResultValues)
    (h : s.line.link ≠ .strapFault) :
    s.writeResult k v x =
      { s with
        coord := { s.coord with
          results := s.coord.results.set k
            { s.coord.results[k] with verdict := v, values := x, mark := .none } }
        line := { s.line with
          queue := { s.line.queue with
            done := some
              { frame := { step := k, verdict := v, attempt := s.coord.results[k].attempt, error := x.error }
                fails := 0, offered := false } } } } := by
  simp [State.writeResult, State.setResult, State.queueDone, State.request, State.mapCoord, h, State.mapQueue,
    State.mapLine, doneOf, State.result, ResultRecord.write, Entry.fresh]

/-- R142: the press cut. -/
theorem State.cutPress_eq (s : State) : s.cutPress = { s with closure := s.closure.pressCut } := by
  unfold State.cutPress State.mapClosure ClosureUnit.cutPress ClosureUnit.pressCut
  cases s.closure.press <;> simp
  rfl

/-- R103: an enrollment ended. -/
theorem State.endEnrollment_eq (s : State) : s.endEnrollment = s.unenrolled := rfl

/-- R103: an enrollment in progress ended. -/
theorem State.endMuster_eq (s : State) : s.endMuster = s.unmustered := rfl

/-- R123: a step closed. -/
theorem State.closeStep_eq (s : State) : s.closeStep = s.stepOver := rfl

/-- R130: the run ended. -/
theorem State.endRun_eq (s : State) : s.endRun = s.runOver := rfl

/-- R111: GATHERING entered by a station that takes part in the line. -/
theorem State.enterGathering_onLine (s : State) (k : StepIx) (h : s.line.link ≠ .strapFault) :
    s.enterGathering k = s.gathers k := by
  simp [State.enterGathering, State.queueReady, State.request, h, State.mapCoord, State.mapQueue, State.mapLine,
    State.gathers, allWaiting, Member.isActive, Entry.fresh, State.now, Config.second]

/-- R36: the plan length is 16 at most. -/
theorem filledPrefixLength_le (l : List (Option StepRecord)) : filledPrefixLength l ≤ l.length := by
  induction l with
  | nil => simp [filledPrefixLength]
  | cons x rest ih => cases x <;> simp [filledPrefixLength, ih]

theorem PlanStore.length_le (p : PlanStore) : p.length ≤ 16 := by
  simpa [PlanStore.length] using filledPrefixLength_le p.slots.toList

/-- R123, R129: a step completed by a station that takes part in the line. -/
theorem State.completeStep_onLine (s : State) (k : StepIx) (h : s.line.link ≠ .strapFault) :
    s.completeStep k = s.completes k := by
  have hp : s.stepOver.plan = s.plan := rfl
  have hle := s.plan.length_le
  unfold State.completeStep State.completes State.advance
  rw [s.closeStep_eq, hp]
  by_cases hk : k.val + 1 < s.plan.length
  · have h16 : k.val + 1 < 16 := by omega
    have hk1 : (⟨k.val + 1, h16⟩ : StepIx) = k + 1 := by
      apply Fin.ext
      simp [Fin.add_def]
      omega
    rw [dif_pos h16, if_pos (by simpa [stepNumber] using hk), if_pos hk, s.stepOver.enterGathering_onLine _ h, hk1]
  · rw [if_neg hk]
    split
    · rw [if_neg (by simpa [stepNumber] using hk), State.endRun_eq]
    · rw [State.endRun_eq]

/-- R113: the trigger of a step whose slot is FILLED. -/
theorem State.trigger_eq (s : State) (k : StepIx) (r : StepRecord) (hr : s.slot k = some r) :
    s.trigger k = s.measures k r := by
  have hr' : s.plan.slots[k.val] = some r := hr
  have hl : (if s.line.queue.lapsePending k .gather then none else s.line.queue.lapse) =
      s.line.queue.lapse.filter fun e => e.frame != { step := k, phase := .gather } := by
    unfold OutQueue.lapsePending
    cases s.line.queue.lapse with
    | none => rfl
    | some e =>
      by_cases he : e.frame = { step := k, phase := .gather } <;> simp [he, Option.filter]
  cases hv : r.valid <;> cases hb : r.body <;>
    simp [State.trigger, State.measures, State.withdrawLapse_eq, State.withdrawReady, State.mapQueue, State.mapLine,
      State.mapCoord, State.armUnits, State.slot, hr', hv, hb, hl, State.startReferenceWait, State.mapFront,
      State.mapGate, State.mapTimed, ErrorGate.armedFor, TimedUnit.armedFor, ErrorGate.idle, TimedUnit.idle,
      gateSettings, State.now, Config.referenceWait]
  cases s.plan.fields <;> rfl

/-- R92: DUPLICATE entered. -/
theorem State.enterDuplicate_eq (s : State) : s.enterDuplicate = s.duplicated := by
  unfold State.enterDuplicate State.requeueDone State.duplicated State.emptiedQueue
  simp only [State.mapLine, LineInterface.endAttempt, State.result]
  cases hk : s.coord.step with
  | none => rfl
  | some k =>
    by_cases hv : s.coord.run = .measuring ∧ s.coord.results[k].verdict ≠ .none
    · have h1 := hv.1
      have h2 : s.coord.results[k.val].verdict ≠ .none := hv.2
      simp [h1, h2, State.queueDone, State.request, State.mapQueue, State.mapLine, Entry.fresh, doneOf, State.result,
        OutQueue.empty]
    · by_cases h1 : s.coord.run = .measuring
      · have h2 : s.coord.results[k.val].verdict = .none := by
          by_contra h2
          exact hv ⟨h1, h2⟩
        simp [h2, OutQueue.empty]
      · simp [h1, OutQueue.empty]

/-- R91: LINK-FAULT entered. -/
theorem State.enterLinkFault_eq (s : State) :
    s.enterLinkFault = { s with line := { s.line with link := .linkFault, queue := s.emptiedQueue } } := by
  unfold State.enterLinkFault State.requeueDone State.emptiedQueue
  simp only [State.mapLine, State.result]
  cases hk : s.coord.step with
  | none => rfl
  | some k =>
    by_cases hv : s.coord.run = .measuring ∧ s.coord.results[k].verdict ≠ .none
    · have h1 := hv.1
      have h2 : s.coord.results[k.val].verdict ≠ .none := hv.2
      simp [h1, h2, State.queueDone, State.request, State.mapQueue, State.mapLine, Entry.fresh, doneOf, State.result,
        OutQueue.empty]
    · by_cases h1 : s.coord.run = .measuring
      · have h2 : s.coord.results[k.val].verdict = .none := by
          by_contra h2
          exact hv ⟨h1, h2⟩
        simp [h2, OutQueue.empty]
      · simp [h1, OutQueue.empty]

/-- The result of a step that ends before the own DONE is taken. -/
theorem State.endedRecord_eq (s : State) (k : StepIx) (f : ResultRecord → ResultRecord) :
    s.endedRecord k f = s.cutShort k (f (s.result k)) := by
  unfold State.endedRecord State.cutShort
  cases s.gate.state <;> cases s.timed.state <;> rfl

/-! ## Restarts of the glitch filter (R5, R8; log 31) -/

theorem FrontEnd.completing_eq (f : FrontEnd) : f.completing = f.pulseAtHand := by
  unfold FrontEnd.completing FrontEnd.pulseAtHand
  cases f.candidate <;> simp [FrontEnd.widthMicros, Config.widthUnit, Option.filter]

theorem FrontEnd.restartFilter_eq (f : FrontEnd) (pulse : Option Nat) :
    f.restartFilter pulse = f.restartedUnder f.inForce.edge pulse := by
  cases h : f.inForce.edge <;>
    simp [FrontEnd.restartFilter, FrontEnd.restartedUnder, FrontEnd.resetPeriod, FrontEnd.restingInput, activeLevel,
      levelOf, h]

/-- R15, R16: the loop generator returns to OFF. -/
theorem FrontEnd.loopOff_eq (f : FrontEnd) : f.loopOff = f.unburst := by
  have hd : FilterSetting.default = { edge := .rising, width := 5 } := rfl
  unfold FrontEnd.loopOff FrontEnd.restartIfChanged FrontEnd.unburst
  rw [f.completing_eq]
  cases hl : f.loop with
  | off => simp [FrontEnd.inForce, hl]
  | burst b =>
    by_cases hs : f.planSetting = { edge := .rising, width := 5 }
    · simp [FrontEnd.inForce, hl, hs, hd]
    · simp [FrontEnd.inForce, hl, hs, hd, FrontEnd.restartFilter_eq]

/-- R2, R5: a new plan setting. -/
theorem FrontEnd.setPlanSetting_eq (f : FrontEnd) (x : FilterSetting) : f.setPlanSetting x = f.withSetting x := by
  unfold FrontEnd.setPlanSetting FrontEnd.restartIfChanged FrontEnd.withSetting
  rw [f.completing_eq]
  cases hl : f.loop with
  | burst b => simp [FrontEnd.inForce, hl]
  | off =>
    by_cases hs : f.planSetting = x
    · simp [FrontEnd.inForce, hl, hs]
    · have hs' : x ≠ f.planSetting := fun h => hs h.symm
      simp [FrontEnd.inForce, hl, hs, hs', FrontEnd.restartFilter_eq]

theorem FrontEnd.withSetting_loop (f : FrontEnd) (x : FilterSetting) : (f.withSetting x).loop = f.loop := by
  unfold FrontEnd.withSetting
  split <;> rfl

/-- A restart leaves no candidate. -/
theorem FrontEnd.withSetting_candidate (f : FrontEnd) (x : FilterSetting) :
    (f.withSetting x).candidate = if f.loop = .off ∧ f.planSetting ≠ x then none else f.candidate := by
  unfold FrontEnd.withSetting
  split <;> rfl

/-- R8, R154: what a restart hands to the self-test is a pulse with no period. -/
theorem State.selfTestPulse_none (s : State) :
    s.selfTestPulse none = if s.burstStarted = true then { s with power := s.power.tallied } else s := by
  cases ht : s.power.tally <;>
    simp [State.selfTestPulse, State.mapPower, PowerUnit.tallied, Tally.add, ht, Config.maxLoopCount]

/-- R8, R154 (log 31): the state once a pulse that a restart met at its acceptance instant is handed over. -/
theorem State.handRestarted_eq (s : State) (before : FrontEnd) :
    s.handRestarted before =
      { s with
        power := if before.pulseAtHand ≠ none ∧ s.front.candidate = none ∧ s.power.state = .waking
            ∧ s.line.link ≠ .strapFault ∧ s.burstStarted = true then s.power.tallied else s.power } := by
  unfold State.handRestarted
  rw [before.completing_eq]
  cases hp : before.pulseAtHand <;> cases hc : s.front.candidate <;> simp
  by_cases hw : s.line.link ≠ .strapFault ∧ s.power.state = .waking
  · simp [State.consumer, hw.1, hw.2, State.selfTestPulse_none]
    split <;> rfl
  · have hn : s.consumer ≠ .selfTest := by
      unfold State.consumer
      by_cases hl : s.line.link = .strapFault
      · simp [hl]
      · have hv : s.power.state ≠ .waking := fun h => hw ⟨hl, h⟩
        simp [hl, hv]
        split
        · simp
        · split <;> simp
    rw [if_neg hn, if_neg (fun h => hw ⟨h.2.1, h.1⟩)]

/-- A pulse at hand is the candidate. -/
theorem FrontEnd.candidate_of_pulseAtHand (f : FrontEnd) (h : f.candidate = none) : f.pulseAtHand = none := by
  simp [FrontEnd.pulseAtHand, h]

/-- A pulse at hand is the candidate. -/
theorem FrontEnd.candidate_ne_none (f : FrontEnd) (p : Nat) (h : f.pulseAtHand = some p) : f.candidate ≠ none := by
  intro hc
  rw [f.candidate_of_pulseAtHand hc] at h
  cases h

/-- R8, R154: the power unit after a plan setting is put in force and the pulse that a restart met is handed over. -/
theorem State.handRestarted_setting (u : State) (x : FilterSetting) (t : State)
    (hcand : t.front.candidate = (u.front.withSetting x).candidate) (hloop : t.front.loop = u.front.loop)
    (htime : t.front.timeBase = u.front.timeBase) (hp : t.power = u.power)
    (hl : t.line.link = .strapFault ↔ u.line.link = .strapFault) :
    t.handRestarted u.front =
      { t with power := u.powerAfterRestart (u.front.loop == .off && u.front.planSetting != x) } := by
  have hn : t.now = u.now := htime
  rw [State.handRestarted_eq]
  congr 1
  unfold State.powerAfterRestart
  cases hpu : u.front.pulseAtHand with
  | none => simp [hp]
  | some p =>
    have hc := u.front.candidate_ne_none p hpu
    rw [hcand, FrontEnd.withSetting_candidate, hp]
    unfold State.burstStarted
    rw [hloop, hp, hn]
    cases hlp : u.front.loop with
    | burst b =>
      have hh : (LoopGen.burst b == LoopGen.off) = false := rfl
      cases hw : u.power.wakeStart <;> simp [hc, hh]
    | off =>
      have hh : (LoopGen.off == LoopGen.off) = true := rfl
      cases hw : u.power.wakeStart with
      | none => simp
      | some w =>
        by_cases hs : u.front.planSetting = x
        · simp [hs, hc]
        · have hne : (u.front.planSetting != x) = true := by simpa using hs
          simp only [hne, hh, Config.burstDelay]
          by_cases hb : w + 50_000 < u.now <;> simp [hs, hl, hb]

/-! ## The line -/

/-- An entry that is offered and lost is as if it was lost alone (R87). -/
theorem OutQueue.change_offer_lose (q : OutQueue) (k : StationKind) :
    (q.change k .offer).change k .lose = q.change k .lose := by
  have h : ∀ (α : Type) (x : Option (Entry α)),
      (x.bind EntryChange.offer.apply).bind EntryChange.lose.apply = x.bind EntryChange.lose.apply := by
    intro α x
    cases x <;> rfl
  cases k <;> simp [OutQueue.change, h]

/-- R171: a station frame has two header words and its payload. -/
theorem stationFrame_words_length (f : StationFrame) (p : Position) : (f.words p).length = 2 + f.payload.length := by
  simp [StationFrame.words, formFrame]
  omega

/-- R82: a malformed frame spells no command. -/
theorem commandOf_malformed (after : Nat) (words : List Word) (h : wellFormedFrame words = false) :
    commandOf after words = none := by
  simp [commandOf, h]

/-- R163: a record kind 0 or 6..15 names no record. -/
theorem recordOfCode_none (w : Word) (h : w.toNat < 0x1000 ∨ 0x6000 ≤ w.toNat) :
    recordOfCode (w.extractLsb' 12 4) = none := by
  have hn : (w.extractLsb' 12 4).toNat = w.toNat / 4096 := by
    simp [BitVec.extractLsb', Nat.shiftRight_eq_div_pow]
    omega
  have hw := w.isLt
  unfold recordOfCode
  rw [hn]
  split <;> first | omega | rfl

/-- R163: a QUERY that names no record spells no command of the table. -/
theorem commandOf_queryOfNoRecord (after : Nat) (w1 w2 w3 : Word) (hk : w1.extractLsb' 2 5 = 0x11)
    (h : w3.toNat < 0x1000 ∨ 0x6000 ≤ w3.toNat) : commandOf after [w1, w2, w3] = none := by
  have hq : kindOfCode (w1.extractLsb' 2 5) = some .query := by rw [hk]; rfl
  have hr : readFrame after [w1, w2, w3] = none := by
    have hp : readPayload after .query (sourceField w1) (selectorField w2) [w3] = readQuery after (selectorField w2) w3 :=
      rfl
    simp only [readFrame, hq, hp, readQuery, recordOfCode_none w3 h]
  simp [commandOf, hr]

end Sys2Proof.Machine
end

