-- ==== Sys2Proof/Laws/Roster.lean ====
section
/-! SUPPORT. The roster, the source view and the two tests of a step in the words of Safety.lean: what the Boolean
operations of the model say, and what the trigger test and the completion test answer. -/

namespace Sys2Proof.Machine

/-! ## The roster (R95, R104 to R107, R113, R123) -/

theorem allReady_iff (roster : List Member) : allReady roster = true ↔ everyReady roster := by
  simp only [allReady, everyReady, Member.isActive, List.all_eq_true]
  refine forall_congr' fun m => forall_congr' fun _ => ?_
  by_cases ha : m.standing = .active <;> simp [ha]

theorem allReported_iff (roster : List Member) : allReported roster = true ↔ everyReported roster := by
  simp only [allReported, everyReported, Member.isActive, Member.isReported, List.all_eq_true]
  refine forall_congr' fun m => forall_congr' fun _ => ?_
  by_cases ha : m.standing = .active
  · cases m.phase <;> simp [ha]
  · simp [ha]

theorem activeAt_iff (p : Position) (roster : List Member) : activeAt p roster = true ↔ memberAt p roster := by
  simp [activeAt, memberAt, Member.isActive]

theorem strikeWhere_eq (p : Member → Bool) (reason : StrikeReason) (roster : List Member) :
    strikeWhere p reason roster =
      roster.map fun m => if m.standing = .active ∧ p m = true then { m with standing := .struck reason } else m := by
  simp [strikeWhere, Member.isActive]

theorem setPhaseAt_eq (p : Position) (phase : Phase) (roster : List Member) :
    setPhaseAt p phase roster =
      roster.map fun m => if m.standing = .active ∧ m.position = p then { m with phase := phase } else m := by
  simp [setPhaseAt, Member.isActive, and_comm]

theorem reportRest_eq (v : Verdict) (roster : List Member) :
    reportRest v roster =
      roster.map fun m =>
        if m.standing = .active ∧ m.isReported = false then { m with phase := .reported v } else m := by
  simp [reportRest, Member.isActive]

/-! ## The source view (R110) -/

theorem SourceView.settledAt_iff (v : SourceView) (r : StepRecord) : v.settledAt (some r) = true ↔ v.isAt r := by
  cases v <;> simp [SourceView.settledAt, SourceView.isAt]

/-! ## The two tests of a step (R113, R123) -/

/-- R113: the condition of the trigger. -/
theorem State.triggerHolds_iff (s : State) (k : StepIx) (r : StepRecord) (hr : s.slot k = some r) :
    s.triggerHolds k = true ↔ everyReady s.coord.roster ∧ s.coord.source.isAt r := by
  rw [State.triggerHolds, hr, Bool.and_eq_true, allReady_iff, SourceView.settledAt_iff]

/-- The trigger test that succeeds. -/
theorem State.triggerTest_triggers (s : State) (k : StepIx) (r : StepRecord) (hrun : s.coord.run = .gathering)
    (hk : s.coord.step = some k) (hr : s.slot k = some r) (h : everyReady s.coord.roster ∧ s.coord.source.isAt r) :
    s.triggerTest = s.measures k r := by
  simp only [State.triggerTest, hrun, hk]
  rw [if_pos ((s.triggerHolds_iff k r hr).2 h), s.trigger_eq k r hr]

/-- The trigger test that fails. -/
theorem State.triggerTest_waits (s : State) (k : StepIx) (r : StepRecord) (hrun : s.coord.run = .gathering)
    (hk : s.coord.step = some k) (hr : s.slot k = some r)
    (h : ¬(everyReady s.coord.roster ∧ s.coord.source.isAt r)) : s.triggerTest = s := by
  simp only [State.triggerTest, hrun, hk]
  rw [if_neg fun ht => h ((s.triggerHolds_iff k r hr).1 ht)]

/-- Outside GATHERING the trigger test changes nothing. -/
theorem State.triggerTest_other (s : State) (h : s.coord.run ≠ .gathering) : s.triggerTest = s := by
  unfold State.triggerTest
  cases hr : s.coord.run <;> first | exact absurd hr h | rfl

/-- The completion test that succeeds. -/
theorem State.completionTest_completes (s : State) (k : StepIx) (hrun : s.coord.run.triggered = true)
    (hk : s.coord.step = some k) (hl : s.line.link ≠ .strapFault) (h : everyReported s.coord.roster) :
    s.completionTest = s.completes k := by
  have h' := (allReported_iff _).2 h
  simp only [State.completionTest, hrun, hk, s.completeStep_onLine k hl, h', Bool.and_self, if_true]

/-- The completion test that fails. -/
theorem State.completionTest_waits (s : State) (h : ¬everyReported s.coord.roster) : s.completionTest = s := by
  have h' : allReported s.coord.roster = false := by
    cases hb : allReported s.coord.roster
    · rfl
    · exact absurd ((allReported_iff _).1 hb) h
  simp only [State.completionTest, h', Bool.and_false]
  cases s.coord.step <;> rfl

/-- Outside a step that has triggered the completion test changes nothing. -/
theorem State.completionTest_other (s : State) (h : s.coord.run.triggered = false) : s.completionTest = s := by
  simp only [State.completionTest, h, Bool.false_and]
  cases s.coord.step <;> rfl

/-- A frame that is taken finds the station on the line. -/
theorem State.takes_link (s u : State) (after : Nat) (h : s.takes after u) : u.line.link ≠ .strapFault := by
  obtain ⟨_, ho, rfl⟩ := h
  exact ho.2

/-- A station frame that is taken finds the station on the line. -/
theorem State.takesStation_link (s u : State) (after : Nat) (source : Position) (f : StationFrame)
    (h : s.takesStation after source f u) : u.line.link ≠ .strapFault := by
  rcases h with h | ⟨_, ho, _, _, _, _, rfl⟩
  · exact s.takes_link u after h.1
  · exact ho.2

end Sys2Proof.Machine
end

