-- ==== Sys2Proof/Tests/Slice0.lean ====
section
/-! SUPPORT. The author's own tests: ill-formed commands, words and cases that the manual works out, one step of a
command, and for each statement a state and operands that meet its hypotheses (test_witness_…). -/

namespace Sys2Proof.Tests

open Sys2Proof Sys2Proof.Machine

set_option maxRecDepth 20000

/-! ## Ill-formed commands (WellFormed) -/

theorem test_station_source_zero_refused : (Instr.ready 0 0 3).wellFormed = false := by decide

theorem test_station_source_thirty_one_refused : (Instr.present 0 31 7).wellFormed = false := by decide

theorem test_hold_source_refused : (Instr.hold 0 0 3).wellFormed = false := by decide

theorem test_lapse_source_refused :
    (Instr.lapseGather 0 31 3).wellFormed = false ∧ (Instr.lapseMeasure 0 0 3).wellFormed = false := by decide

theorem test_parked_source_refused : (Instr.parked 0 0 .clampOpen).wellFormed = false := by decide

theorem test_done_error_without_measured_verdict_refused :
    (Instr.done 0 3 2 .noref 1 (some 5)).wellFormed = false := by decide

theorem test_reply_of_wrong_length_refused : (Instr.reply 0 3 [0x1000, 0, 0, 0]).wellFormed = false := by decide

theorem test_reply_naming_no_record_refused : (Instr.reply 0 3 [0x6000, 0, 0, 0, 0]).wellFormed = false := by decide

theorem test_malformed_frame_that_spells_a_command_refused :
    (Instr.malformedFrame 0 (groupsOf [0x200E, 0x0000])).wellFormed = false := by decide

theorem test_malformed_frame_without_groups_refused : (Instr.malformedFrame 0 []).wellFormed = false := by decide

theorem test_attempt_start_without_groups_refused :
    (Instr.attemptStart 0 (.own 0 true) 0).wellFormed = false ∧ (Instr.attemptStart 0 .peer 0).wellFormed = false := by
  decide

theorem test_aborted_frame_without_groups_refused : (Instr.frameAborted 0 []).wellFormed = false := by decide

theorem test_well_formed_commands_accepted :
    (Instr.done 0 3 2 .pass 1 (some 5)).wellFormed = true ∧ (Instr.reply 0 3 [0x1000, 0, 0, 0, 0]).wellFormed = true
      ∧ (Instr.malformedFrame 0 (groupsOf [0x300E, 0x0000])).wellFormed = true
      ∧ (Instr.malformedFrame 0 (groupsOf [0x200E])).wellFormed = true
      ∧ (Instr.malformedFrame 0 (groupsOf [0b1011_00000_10001_10, 0b0001_00000_00000_00, 0x6000])).wellFormed = true
      ∧ (Instr.attemptStart 0 (.own 0 true) 1).wellFormed = true ∧ (Instr.attemptStart 0 .peer 14).wellFormed = true
      ∧ (Instr.frameAborted 0 [(0x200E, 0)]).wellFormed = true ∧ (Instr.ready 0 30 15).wellFormed = true := by decide

/-! ## Words of the manual -/

/-- Chapter 11, A HALT to every position: 200Eh with check DEh, 0000h with check A5h; 3Ch there is bad. -/
theorem test_halt_words :
    frameWords (.halt 0 { value := 0, mask := 0 }) = some [0x200E, 0x0000]
      ∧ groupsOf [0x200E, 0x0000] = [(0x200E, 0xDE), (0x0000, 0xA5)]
      ∧ frameBad [(0x200E, 0xDE), (0x0000, 0xA5)] = false ∧ frameBad [(0x200E, 0xDE), (0x0000, 0x3C)] = true := by
  decide

/-- R77: 0000h is checked as 5Ah, 3Ch or A5h by its role; 0001h as a body word carries 3Bh, as a final word A2h. -/
theorem test_check_of_small_words :
    wordCheck .head 0 = 0x5A ∧ wordCheck .body 0 = 0x3C ∧ wordCheck .final 0 = 0xA5
      ∧ wordCheck .body 1 = 0x3B ∧ wordCheck .final 1 = 0xA2 := by decide

/-- READY(3) of position 6: priority 6, source 6, kind 08h, marker 10; length 1; step index 3 as 2 in bits 15..12. -/
theorem test_ready_words :
    takenCommand 0 [0b0110_00110_01000_10, 0b0001_00000_00000_00, 0b0010_000000000000] = .ready 0 6 2 := by
  decide

/-- LAPSE(1, MEASURE) of position 30: priority 1, kind 01h; phase in bit 11. -/
theorem test_lapse_words :
    takenCommand 0 [0b0001_11110_00001_10, 0b0001_00000_00000_00, 0b0000_1_00000000000]
      = .lapseMeasure 0 30 0 := by decide

/-- DONE(2) of position 5 with verdict FAIL, attempt 3 and error −1: 21 bits, the upper five in the first word. -/
theorem test_done_words :
    takenCommand 0 [0b0101_00101_00111_10, 0b0010_00000_00000_00, 0b0001_010_0011_11111, 0xFFFF]
      = .done 0 5 1 .fail 3 (some (BitVec.ofInt 21 (-1))) := by decide

/-- SETTLED at load point 9 of the source station: priority 3, source 31, kind 05h. -/
theorem test_settled_words :
    takenCommand 0 [0b0011_11111_00101_10, 0b0001_00000_00000_00, 0x0009] = .settled 0 9 := by decide

/-- RESET with scope ALL to position 4 alone: priority 2, kind 02h, value 4 and mask 1Fh, scope in bit 0. -/
theorem test_reset_all_words :
    takenCommand 0 [0b0010_00000_00010_10, 0b0001_00100_11111_00, 0x0001]
      = .resetAll 0 { value := 4, mask := 0x1F } := by decide

/-- RUN of plan 417 from step 1 to every position: priority 8, kind 0Bh. -/
theorem test_run_words :
    takenCommand 0 [0b1000_00000_01011_10, 0b0010_00000_00000_00, 417, 0x0001]
      = .run 0 { value := 0, mask := 0 } 417 1 := by decide

/-- A QUERY for RESULT of slot 3: priority 11, kind 11h, record kind 2 in bits 15..12, slot in bits 4..0. -/
theorem test_query_words :
    takenCommand 0 [0b1011_00000_10001_10, 0b0001_00000_00000_00, 0x2003]
      = .queryResult 0 { value := 0, mask := 0 } 3 := by decide

/-- A priority that is not the kind's makes a frame malformed (R82). -/
theorem test_wrong_priority_is_malformed :
    takenCommand 0 [0b0011_00000_00011_10, 0x0000]
      = .malformedFrame 0 (groupsOf [0b0011_00000_00011_10, 0x0000]) := by decide

/-- A QUERY of record kind 0 or 6 brings no command (R163). -/
theorem test_query_of_no_record :
    takenCommand 0 [0b1011_00000_10001_10, 0b0001_00000_00000_00, 0x0003]
        = .malformedFrame 0 (groupsOf [0b1011_00000_10001_10, 0b0001_00000_00000_00, 0x0003])
      ∧ takenCommand 0 [0b1011_00000_10001_10, 0b0001_00000_00000_00, 0x6003]
        = .malformedFrame 0 (groupsOf [0b1011_00000_10001_10, 0b0001_00000_00000_00, 0x6003]) := by decide

/-! ## Cases that the manual works out -/

/-- Chapter 3, A slow meter within its limits. -/
theorem test_slow_meter :
    gateOutcome { cref := 10_000_000, cmut := 1_000, gate := 20, lower := -1_000, upper := 1_000 } 20 200_146 false
      = { error := some (-729), clamped := false, verdict := .pass } := by decide

/-- Chapter 3, A gross error clamped. -/
theorem test_gross_error :
    gateOutcome { cref := 2_000_000_000, cmut := 1, gate := 1, lower := -1_000, upper := 999_999 } 1 1 false
      = { error := some 999_999, clamped := true, verdict := .fail } := by decide

/-- Chapter 3, Rounding at one half. -/
theorem test_rounding_at_one_half :
    roundedError 2 2_000_001 4_000 1_000 = 1 ∧ roundedError 2 1_999_999 4_000 1_000 = -1
      ∧ roundedError 2 2_000_000 4_000 1_000 = 0 := by decide

/-- R25: a window of 20 to 3 becomes 16..16, one of 0 to 0 becomes 1..1. -/
theorem test_window_clamps (p : PlanPayload) :
    planWindowFirst { p with windowFirst := 20, windowLast := 3 } = 16
      ∧ planWindowLast { p with windowFirst := 20, windowLast := 3 } = 16
      ∧ planWindowFirst { p with windowFirst := 0, windowLast := 0 } = 1
      ∧ planWindowLast { p with windowFirst := 0, windowLast := 0 } = 1 := ⟨rfl, rfl, rfl, rfl⟩

/-- A STEP payload with every field 0 but the kind and the load point. -/
def stepPayload (kind : BitVec 4) (loadPoint : BitVec 8) : StepPayload :=
  { kind := kind, allowance := 0, loadPoint := loadPoint, cmut := 0, gate := 0, lower := 0, upper := 0,
    extension := 0, threshold := 0, duration := 0, deadline := 0 }

/-- Chapter 2, Examples of formed step records, rows 1, 3, 4, 5 and 6. -/
theorem test_formed_step_records :
    formStepRecord { stepPayload 1 4 with
        cmut := 1_000, lower := BitVec.ofInt 32 (-1_000), upper := 1_000, deadline := 60, extension := 10
        allowance := 9 }
      = { body := .error { cmut := 1_000, gate := 1, lower := -1_000, upper := 1_000, extension := 10 }, valid := true,
          loadPoint := 4, baseDeadline := 60, allowance := 7 }
    ∧ (formStepRecord { stepPayload 1 2 with
        cmut := 1_000, gate := 20, lower := 1_200_000, upper := BitVec.ofInt 32 (-5_000), deadline := 60
        extension := 10, allowance := 2 }).valid = false
    ∧ formStepRecord { stepPayload 2 1 with duration := 50 }
      = { body := .creep { duration := 100, threshold := 0 }, valid := true, loadPoint := 1, baseDeadline := 2,
          allowance := 0 }
    ∧ formStepRecord { stepPayload 3 3 with duration := 600_000, deadline := 300 }
      = { body := .start { duration := 600_000, threshold := 1 }, valid := true, loadPoint := 3, baseDeadline := 601,
          allowance := 0 }
    ∧ formStepRecord { stepPayload 9 0 with deadline := 5_000 }
      = { body := .unknown, valid := false, loadPoint := 0, baseDeadline := 3_600, allowance := 0 } := by decide

/-! ## Small states -/

/-- A station whose line is IDLE. -/
def onLine : State := { State.reset with line := { State.reset.line with phase := .idle } }

/-- An AWAKE station in IDLE. -/
def awake : State :=
  { onLine with
    power := { State.reset.power with state := .awake, clamp := .closed, hdpw := true }
    closure := { State.reset.closure with caln := .asserted } }

def errorSlot : StepRecord :=
  { body := .error { cmut := 1_000, gate := 2, lower := -1_000, upper := 1_000, extension := 10 }, valid := true,
    loadPoint := 4, baseDeadline := 60, allowance := 1 }

def creepSlot : StepRecord :=
  { body := .creep { duration := 1_000, threshold := 1 }, valid := true, loadPoint := 4, baseDeadline := 60,
    allowance := 0 }

def invalidSlot : StepRecord := { errorSlot with loadPoint := 0, valid := false }

/-- A station with a plan of one step. -/
def loadedWith (r : StepRecord) : State :=
  { awake with
    plan := { State.reset.plan with
      number := 7, fields := some { cref := 1_000, edge := .rising, width := 5, gather := 30 }, cursor := 2
      sessionOpen := true, slots := State.reset.plan.slots.set 0 (some r) }
    coord := { State.reset.coord with run := .loaded } }

def loaded : State := loadedWith errorSlot

def member (p : Position) (ph : Phase) : Member := { position := p, standing := .active, phase := ph }

/-- A station in a run state, with step 1 in hand, the source settled at its load point, and a roster. -/
def inRun (r : StepRecord) (run : RunState) (roster : List Member) : State :=
  { loadedWith r with
    coord := { State.reset.coord with run := run, step := some 0, source := .settled 4, roster := roster } }

def enrolled (home : HomeState) : State :=
  { loaded with
    coord := { loaded.coord with
      run := .enrolled, home := some home, windowEnd := some 5_000_000, roster := [member 1 .waiting] } }

def closed (press : Press) : State :=
  { loaded with
    coord := { loaded.coord with run := .closed, step := some 0, verdict := some .pass }
    closure := { loaded.closure with press := press } }

/-- The gate of step 1 in a state. -/
def gateIn (state : GateState) (n : Option Nat) : ErrorGate :=
  { ErrorGate.idle with
    state := state, step := some 0, n := n
    settings := some { cref := 1_000, cmut := 1_000, gate := 2, lower := -1_000, upper := 1_000 } }

/-- The timed unit of step 1 in a state. -/
def timedIn (state : TimedState) (kind : TimedKind) (threshold : Nat) (count : Option Nat) : TimedUnit :=
  { TimedUnit.idle with
    state := state, step := some 0, settings := some { kind := kind, duration := 1_000, threshold := threshold }
    startTime := some 0, durationEnd := some 1_000_000, count := count }

/-- A candidate pulse that is accepted at 500 µs. -/
def qualifying (s : State) : State :=
  { s with front := { s.front with mtp := .high, input := .qualify, candidate := some 0 } }

def everyone : Selector := { value := 0, mask := 0 }

def nobody : Selector := { value := 2, mask := 0x1F }

/-- The state in which a frame sent at once is taken. -/
def taken (s : State) : State := (s.elapse 0).afterFrame

/-- A frame sent at once is taken. -/
theorem takes_now (s : State) (h : s.rstnLow = false) (ho : (s.elapse 0).onLine) : s.takes 0 (taken s) := ⟨h, ho, rfl⟩

/-- The local event that is due first. -/
theorem meets_at (s : State) (e : LocalEvent) (t : Nat) (hr : s.rstnLow = false) (hd : s.due e = some t)
    (hn : s.now ≤ t) (hq : (LocalEvent.all.all fun x => !s.dueBefore t x) = true) : s.meets e (s.setTime t) := by
  have ht : (s.setTime t).now = t := by rw [State.setTime_now]; omega
  refine ⟨hr, by rw [ht]; exact hd, by rw [ht]; exact hn, fun x => ?_, by rw [ht]⟩
  rw [ht]
  have hx : x ∈ LocalEvent.all := by cases x <;> decide
  simpa using List.all_eq_true.1 hq x hx

/-- A command sent at once reaches the station. -/
theorem reaches_now (s : State) (h : s.rstnLow = false) : s.reaches 0 (s.elapse 0) := ⟨h, rfl⟩

/-! ## One step of a command -/

/-- The next state that a command answers with. -/
def nextOf (o : Host.Outcome State Fault Refusal) : Option State :=
  match o with
  | .next s => some s
  | .fault _ => none
  | .refused _ => none

/-- A QUERY of another position leaves the queue empty, one of this position queues a REPLY (R83, R163). -/
theorem test_query_status_step :
    nextOf (exec (.queryStatus 0 nobody) loaded) = some (taken loaded)
      ∧ nextOf (exec (.queryStatus 0 everyone) loaded) =
        some { taken loaded with
          line := { (taken loaded).line with
            queue := { OutQueue.empty with
              reply := some { frame := { kind := .status, slot := 0 }, fails := 0, offered := false } } } } := by
  decide

/-- The queue is served from its front (the block's step). -/
theorem test_step_takes_the_front :
    nextOf (step { State.reset with pending := [.joiningEnd 240, .disturbed 0] }) =
      some { State.reset with
        front := { State.reset.front with timeBase := 240 }
        line := { State.reset.line with phase := .idle }
        pending := [.disturbed 0] } := by decide

/-- A rising reference edge counts in COUNTING (R12). -/
theorem test_reference_edge_step :
    nextOf (exec (.referenceEdge 7)
        { awake with front := { awake.front with counter := { counting := true, value := 41, overrange := false } } }) =
      some { awake with
        front := { awake.front with
          timeBase := 7, counter := { counting := true, value := 42, overrange := false } } } := by decide

/-- A pulse is accepted W after its edge, with the edge's time stamp (R3, R6, R7). -/
theorem test_pulse_accepted_step :
    nextOf (exec .pulseAccepted (qualifying awake)) =
      some { awake with
        front := { awake.front with timeBase := 500, mtp := .high, input := .waitRelease, lastPulse := some 0 } } := by
  decide

/-! ## Witnesses: the queue, time and reset -/

theorem test_witness_StepRunsFrontCommand :
    ({ State.reset with pending := [Instr.joiningEnd 0] } : State).pending = .joiningEnd 0 :: [] := rfl

/-- The end of a gap, the end slot of a frame, and the acceptance of a pulse on the way. -/
theorem test_witness_IdleStepPassesTime :
    (State.reset.pending = [] ∧ ({ State.reset with rstnLow := true } : State).rstnLow = true)
    ∧ ((∀ e, (taken awake).dueBefore ((taken awake).now + 24) e = false)
      ∧ (taken awake).line.phase = .gap ∧ (taken awake).line.gapEnd = some ((taken awake).now + 24))
    ∧ (let s := { awake with line := { awake.line with phase := .frame, endSlot := some 400 } };
      (∀ e, s.dueBefore (s.now + 400) e = false) ∧ s.line.phase = .frame ∧ s.line.endSlot = some (s.now + 400))
    ∧ ((qualifying awake).rstnLow = false ∧ (qualifying awake).due .pulseAccepted = some 500
      ∧ (qualifying awake).now ≤ 500 ∧ 500 < (qualifying awake).now + 501
      ∧ (∀ e, (qualifying awake).dueBefore 500 e = false)) :=
  ⟨⟨rfl, rfl⟩, ⟨by intro e; cases e <;> decide, by decide, by decide⟩, ⟨by intro e; cases e <;> decide, rfl, rfl⟩,
    rfl, by decide, by decide, by decide, by intro e; cases e <;> decide⟩

theorem test_witness_TimeBaseNeverGoesBack :
    nextOf (exec (.powerOn 0 .opened .low) loaded) = some { State.reset with
        line := { State.reset.line with strap := 0, link := .strapFault } }
      ∧ nextOf (exec (.joiningEnd 3) loaded) = some { loaded with front := { loaded.front with timeBase := 3 } } := by
  decide

theorem test_witness_UnarmedLocalEventChangesNothing :
    (LocalEvent.all.all fun e => State.reset.due e == none) = true := by decide

theorem test_witness_PinResetKeepsThePlan :
    loaded.plan.fields = some { cref := 1_000, edge := .rising, width := 5, gather := 30 }
      ∧ State.reset.plan.fields = none := by decide

theorem test_witness_RstnHeldLowStopsTheStation :
    (awake.reaches 0 (awake.elapse 0) ∧ (awake.elapse 0).front.loop = .off)
      ∧ (let s := { awake with front := { awake.front with loop := .burst 0 } };
        s.reaches 0 (s.elapse 0) ∧ (s.elapse 0).front.loop = .burst 0
          ∧ (s.elapse 0).front.planSetting = { edge := .rising, width := 5 })
      ∧ (let s := { awake with
            front := { awake.front with loop := .burst 0, planSetting := { edge := .falling, width := 9 } } };
        s.reaches 0 (s.elapse 0) ∧ (s.elapse 0).front.loop = .burst 0
          ∧ (s.elapse 0).front.planSetting ≠ { edge := .rising, width := 5 })
      ∧ (let s := { qualifying awake with
            front := { (qualifying awake).front with loop := .burst 0, planSetting := { edge := .falling, width := 9 } } };
        s.reaches 500 (s.elapse 500) ∧ (s.elapse 500).front.loop = .burst 0
          ∧ (s.elapse 500).front.pulseAtHand = some 0)
      ∧ ({ State.reset with rstnLow := true } : State).rstnLow = true :=
  ⟨⟨reaches_now _ rfl, by decide⟩, ⟨reaches_now _ rfl, by decide, by decide⟩,
    ⟨reaches_now _ rfl, by decide, by decide⟩, ⟨⟨rfl, rfl⟩, by decide, by decide⟩, rfl⟩

/-! ## Witnesses: pulse inputs and measuring units -/

theorem test_witness_MeterInputQualifiesEdges :
    (∀ i : InputState,
      let s := { awake with front := { awake.front with input := i } };
      s.reaches 0 (s.elapse 0) ∧ (s.elapse 0).front.input = i)
    ∧ (let s := { awake with front := { awake.front with input := .qualifyRelease, releaseTime := some 0 } };
      s.meets .filterRearm (s.setTime 500))
    ∧ ((qualifying awake).front.input = .qualify ∧ (qualifying awake).front.candidate = some 0) :=
  ⟨by intro i; exact ⟨reaches_now _ rfl, by cases i <;> decide⟩, meets_at _ _ _ rfl (by decide) (by decide) (by decide),
    rfl, rfl⟩

/-- A pulse in a state is accepted at 500 µs. -/
theorem qualifying_meets (s : State) (hr : s.rstnLow = false) (hd : (qualifying s).due .pulseAccepted = some 500)
    (hn : s.now ≤ 500) (hq : (LocalEvent.all.all fun x => !(qualifying s).dueBefore 500 x) = true) :
    (qualifying s).meets .pulseAccepted ((qualifying s).setTime 500) :=
  meets_at _ _ _ hr hd hn hq

theorem test_witness_PulseWithoutConsumerUpdatesPeriod :
    (let s := qualifying awake;
      s.meets .pulseAccepted (s.setTime 500) ∧ (s.setTime 500).front.candidate = some 0
        ∧ (s.setTime 500).power.state = .awake ∧ (s.setTime 500).gate.state = .idle
        ∧ (s.setTime 500).timed.state = .idle)
    ∧ (let s := qualifying { onLine with line := { onLine.line with link := .strapFault, strap := 0 } };
      s.meets .pulseAccepted (s.setTime 500) ∧ (s.setTime 500).line.link = .strapFault) :=
  ⟨⟨qualifying_meets _ rfl (by decide) (by decide) (by decide), by decide, by decide, by decide, by decide⟩,
    ⟨qualifying_meets _ rfl (by decide) (by decide) (by decide), by decide⟩⟩

/-- A pulse that finds the gate of step 1 in a state. -/
def pulseAt (g : ErrorGate) (last : Option Nat) (deadline : Option Nat) : State :=
  qualifying
    { inRun errorSlot .measuring [member 1 .ready] with
      gate := g
      front := { awake.front with lastPulse := last }
      coord := { (inRun errorSlot .measuring [member 1 .ready]).coord with deadline := deadline } }

theorem test_witness_OpeningPulseStartsCounter :
    let s := pulseAt (gateIn .waitingOpen none) none (some 60_000_000);
    s.meets .pulseAccepted (s.setTime 500) ∧ (s.setTime 500).front.candidate = some 0
      ∧ (s.setTime 500).line.link ≠ .strapFault ∧ (s.setTime 500).power.state = .awake
      ∧ (s.setTime 500).gate.state = .waitingOpen :=
  ⟨qualifying_meets _ rfl (by decide) (by decide) (by decide), by decide, by decide, by decide, by decide⟩

/-- N = 0 of a gate length of 2; a finish of 1,000,000 µs against the deadlines that ask for a hold and do not. -/
theorem test_witness_CountedPulsePredictsAndAsksForHold :
    (∀ d last, d = 1_000_000 ∨ d = 60_000_000 →
      last = none ∨ last = some 0 →
      let s := pulseAt (gateIn .opened (some 0)) last (some d);
      s.meets .pulseAccepted (s.setTime 500) ∧ (s.setTime 500).front.candidate = some 0
        ∧ (s.setTime 500).line.link ≠ .strapFault ∧ (s.setTime 500).power.state = .awake
        ∧ (s.setTime 500).gate.state = .opened ∧ (s.setTime 500).gate.step = some 0
        ∧ (s.setTime 500).gate.n = some 0 ∧ (s.setTime 500).slot 0 = some errorSlot
        ∧ (s.setTime 500).coord.deadline = some d ∧ (s.setTime 500).formedPeriod 0 = last
        ∧ (s.setTime 500).coord.holds < errorSlot.allowance ∧ (s.setTime 500).gate.holdLatch = false) := by
  rintro d last (rfl | rfl) (rfl | rfl) <;>
    exact ⟨qualifying_meets _ rfl (by decide) (by decide) (by decide), by decide, by decide, by decide, by decide,
      by decide, by decide, by decide, by decide, by decide, by decide, by decide⟩

theorem test_witness_ClosingPulseWritesResult :
    let s := pulseAt (gateIn .opened (some 1)) (some 0) (some 60_000_000);
    s.meets .pulseAccepted (s.setTime 500) ∧ (s.setTime 500).front.candidate = some 0
      ∧ (s.setTime 500).line.link ≠ .strapFault ∧ (s.setTime 500).power.state = .awake
      ∧ (s.setTime 500).gate.state = .opened ∧ (s.setTime 500).gate.step = some 0
      ∧ (s.setTime 500).gate.settings = (gateIn .opened (some 1)).settings ∧ (s.setTime 500).gate.n = some 1 :=
  ⟨qualifying_meets _ rfl (by decide) (by decide) (by decide), by decide, by decide, by decide, by decide, by decide,
    by decide, by decide⟩

/-- A pulse that finds the timed unit of step 1 in a state. -/
def timedPulseAt (u : TimedUnit) : State :=
  qualifying { inRun creepSlot .measuring [member 1 .ready] with timed := u }

/-- The count below its threshold, above it, and in TRAILING, at the edges of the ranges. -/
theorem test_witness_TimedUnitCountsPulses :
    (∀ u, u = timedIn .counting .creep 1 (some 0) ∨ u = timedIn .counting .start 2 (some 0)
        ∨ u = timedIn .counting .creep 1 (some 1) ∨ u = timedIn .counting .start 2 (some 1)
        ∨ u = timedIn .trailing .start 2 (some 65_535) →
      (timedPulseAt u).meets .pulseAccepted ((timedPulseAt u).setTime 500)
        ∧ ((timedPulseAt u).setTime 500).front.candidate = some 0
        ∧ ((timedPulseAt u).setTime 500).line.link ≠ .strapFault
        ∧ ((timedPulseAt u).setTime 500).power.state = .awake ∧ ((timedPulseAt u).setTime 500).gate.state = .idle
        ∧ ((timedPulseAt u).setTime 500).timed = u ∧ u.step = some 0) := by
  rintro u (rfl | rfl | rfl | rfl | rfl) <;>
    exact ⟨qualifying_meets _ rfl (by decide) (by decide) (by decide), by decide, by decide, by decide, by decide,
      by decide, by decide⟩

/-- A station in WAKING since time 0. -/
def waking (loop : LoopGen) (tally : Tally) : State :=
  { onLine with
    power := { State.reset.power with
      state := .waking, clamp := .closed, wakeStart := some 0, tally := some tally, hdpw := true }
    front := { State.reset.front with loop := loop } }

/-- A WAKING whose burst is over, with a candidate pulse that is accepted at 130,700 µs, within the margin. -/
def inMargin (last : Option Nat) : State :=
  let w := waking .off Tally.cleared
  { w with
    front := { w.front with
      timeBase := 130_300, mtp := .high, input := .qualify, candidate := some 130_200, lastPulse := last } }

theorem test_witness_SelfTestTalliesPulses :
    (let s := qualifying (waking .off Tally.cleared);
      s.meets .pulseAccepted (s.setTime 500) ∧ (s.setTime 500).front.candidate = some 0
        ∧ (s.setTime 500).power.state = .waking ∧ (s.setTime 500).power.wakeStart = some 0
        ∧ (s.setTime 500).now ≤ 0 + 50_000)
    ∧ (∀ last, last = none ∨ last = some 0 →
      let w := waking (.burst 50_000) Tally.cleared;
      let s := { w with
        front := { w.front with
          timeBase := 50_020, mtp := .high, input := .qualify, candidate := some 50_012, lastPulse := last } }
      s.meets .pulseAccepted (s.setTime 50_512) ∧ (s.setTime 50_512).front.loop = .burst 50_000
        ∧ (s.setTime 50_512).power.tally = some Tally.cleared
        ∧ ((s.setTime 50_512).formedPeriod 50_012).isSome = last.isSome)
    ∧ (∀ last, last = none ∨ last = some 130_000 →
      let s := inMargin last
      s.meets .pulseAccepted (s.setTime 130_700) ∧ (s.setTime 130_700).front.candidate = some 130_200
        ∧ (s.setTime 130_700).power.state = .waking ∧ (s.setTime 130_700).front.loop = .off
        ∧ (s.setTime 130_700).power.wakeStart = some 0 ∧ 0 + 50_000 < (s.setTime 130_700).now
        ∧ (s.setTime 130_700).power.tally = some Tally.cleared
        ∧ ((s.setTime 130_700).formedPeriod 130_200).isSome = last.isSome) := by
  refine ⟨⟨qualifying_meets _ rfl (by decide) (by decide) (by decide), by decide, by decide, by decide, by decide⟩, ?_, ?_⟩
  · rintro last (rfl | rfl) <;>
      exact ⟨meets_at _ _ _ rfl (by decide) (by decide) (by decide), by decide, by decide, by decide⟩
  · rintro last (rfl | rfl) <;>
      exact ⟨meets_at _ _ _ rfl (by decide) (by decide) (by decide), by decide, by decide, by decide, by decide,
        by decide, by decide, by decide⟩

/-- A pulse in the margin is counted (R154). -/
theorem test_pulse_in_the_margin_is_counted :
    ((nextOf (exec .pulseAccepted (inMargin (some 126_200)))).bind fun t => t.power.tally)
      = some { count := 1, smallest := some 4_000, largest := some 4_000 } := by decide

/-- COUNTING below the limit, one below it, at it, and STOPPED. -/
theorem test_witness_ReferenceEdgeCounts :
    ∀ c : RefCounter,
      c = { counting := true, value := 0, overrange := false }
        ∨ c = { counting := true, value := 4_294_967_294, overrange := false }
        ∨ c = { counting := true, value := 4_294_967_295, overrange := true }
        ∨ c = { counting := false, value := 9, overrange := false } →
      let s := { awake with front := { awake.front with counter := c } };
      s.reaches 0 (s.elapse 0) ∧ (s.elapse 0).front.nextEdge = false ∧ (s.elapse 0).front.counter = c := by
  rintro c (rfl | rfl | rfl | rfl) <;> exact ⟨reaches_now _ rfl, by decide, by decide⟩

theorem test_witness_DurationEndFormsVerdict :
    ∀ u, u = timedIn .counting .creep 1 (some 1) ∨ u = timedIn .counting .start 2 (some 1)
        ∨ u = timedIn .trailing .start 2 (some 3) →
      let s := { inRun creepSlot .measuring [member 1 .ready] with timed := u };
      s.meets .durationEnd (s.setTime 1_000_000) ∧ (s.setTime 1_000_000).timed = u
        ∧ (s.setTime 1_000_000).line.link ≠ .strapFault ∧ u.step = some 0 ∧ u.settings.isSome = true
        ∧ u.count.isSome = true := by
  rintro u (rfl | rfl | rfl) <;>
    exact ⟨meets_at _ _ _ rfl (by decide) (by decide) (by decide), by decide, by decide, by decide, by decide, by decide⟩

/-- A station that waits for its common start. -/
def awaiting (r : StepRecord) (run : RunState) (g : ErrorGate) (u : TimedUnit) : State :=
  let s := inRun r run [member 1 .ready]
  { s with
    gate := g, timed := u, front := { s.front with nextEdge := true }
    coord := { s.coord with waitEnd := some 100_000 } }

/-- The armed gate, the armed timed unit, the INVALID slot and the REPORTED station, at the edge and at the wait's end. -/
theorem test_witness_CommonStartSetsDeadlineAndUnits :
    ∀ s, s = awaiting errorSlot .measuring (gateIn .armed none) TimedUnit.idle
        ∨ s = awaiting creepSlot .measuring ErrorGate.idle (timedIn .armed .creep 1 none)
        ∨ s = awaiting invalidSlot .measuring ErrorGate.idle TimedUnit.idle
        ∨ s = awaiting errorSlot .reported ErrorGate.idle TimedUnit.idle →
      (s.reaches 0 (s.elapse 0) ∧ (s.elapse 0).front.nextEdge = true ∧ (s.elapse 0).front.counter.counting = false
        ∧ (s.elapse 0).coord.step = some 0 ∧ ((s.elapse 0).slot 0).isSome = true
        ∧ (s.elapse 0).line.link ≠ .strapFault)
      ∧ (s.meets .referenceWaitExpiry (s.setTime 100_000) ∧ (s.setTime 100_000).coord.step = some 0
        ∧ ((s.setTime 100_000).slot 0).isSome = true) := by
  rintro s (rfl | rfl | rfl | rfl) <;>
    exact ⟨⟨reaches_now _ rfl, by decide, by decide, by decide, by decide, by decide⟩,
      ⟨meets_at _ _ _ rfl (by decide) (by decide) (by decide), by decide, by decide⟩⟩

/-! ## Witnesses: timers, power and the clamp -/

/-- A PARKED station with its dwell running since time 0. -/
def parked (held : Bool) : State :=
  { onLine with
    power := { State.reset.power with
      parkedSince := some 0, heldClosing := held, clamp := if held then .closed else .opened } }

theorem test_witness_LocalTimersRunOut :
    (let s := { inRun errorSlot .gathering [member 1 .waiting] with
        coord := { (inRun errorSlot .gathering [member 1 .waiting]).coord with gatherEnd := some 30_000_000 } };
      s.meets .gatherTimerExpiry (s.setTime 30_000_000) ∧ (s.setTime 30_000_000).coord.step = some 0
        ∧ (s.setTime 30_000_000).line.link ≠ .strapFault ∧ s.coord.run = .gathering)
    ∧ (let s := pulseAt (gateIn .opened (some 0)) none (some 400);
      s.meets .stepDeadlineExpiry (s.setTime 400) ∧ (s.setTime 400).coord.step = some 0
        ∧ s.coord.run = .measuring ∧ s.coord.expired = false)
    ∧ (∀ h, (enrolled h).meets .musterWindowExpiry ((enrolled h).setTime 5_000_000)
        ∧ ((enrolled h).setTime 5_000_000).coord.run = .enrolled
        ∧ ((enrolled h).setTime 5_000_000).coord.home = some h)
    ∧ (let s := { loaded with coord := { loaded.coord with stage := .awaiting, windowEnd := some 5_000_000 } };
      s.meets .musterWindowExpiry (s.setTime 5_000_000) ∧ (s.setTime 5_000_000).coord.run ≠ .enrolled)
    ∧ (let s := closed (.energised 0 400_000);
      s.meets .pressDwellEnd (s.setTime 400_000) ∧ s.closure.press = .energised 0 400_000)
    ∧ (∀ held, (parked held).meets .parkedDwellEnd ((parked held).setTime 500_000)
        ∧ ((parked held).setTime 500_000).power.heldClosing = held ∧ (parked held).power.state = .parked
        ∧ (parked held).power.parkedSince = some 0) := by
  refine ⟨⟨meets_at _ _ _ rfl (by decide) (by decide) (by decide), by decide, by decide, by decide⟩,
    ⟨meets_at _ _ _ rfl (by decide) (by decide) (by decide), by decide, by decide, by decide⟩, ?_,
    ⟨meets_at _ _ _ rfl (by decide) (by decide) (by decide), by decide⟩,
    ⟨meets_at _ _ _ rfl (by decide) (by decide) (by decide), by decide⟩, ?_⟩
  · intro h
    cases h <;> exact ⟨meets_at _ _ _ rfl (by decide) (by decide) (by decide), by decide, by decide⟩
  · intro held
    cases held <;> exact ⟨meets_at _ _ _ rfl (by decide) (by decide) (by decide), by decide, by decide, by decide⟩

/-- A WAKING with a pulse whose acceptance instant is that of the burst start. -/
def startsInPulse : State :=
  let w := waking .off Tally.cleared
  { w with front := { w.front with timeBase := 49_600, mtp := .high, input := .qualify, candidate := some 49_500 } }

/-- A burst under another plan setting with a pulse whose acceptance instant is that of the burst end. -/
def endsInPulse : State :=
  let w := waking (.burst 50_000) Tally.cleared
  { w with
    front := { w.front with
      timeBase := 129_600, mtp := .high, input := .qualify, candidate := some 129_500
      planSetting := { edge := .falling, width := 9 } } }

/-- R16: a burst under another plan setting that is cut at the acceptance instant of a pulse, by the clamp opening or by
RSTN held low: the pulse's stamp becomes the last pulse time and no tally counts it (log 31, log 6). -/
theorem test_pulse_at_burst_abort_leaves_its_stamp :
    (((nextOf (exec (.clampOpening 400) endsInPulse)).map fun t => (t.front.loop, t.power.tally, t.front.lastPulse))
        = some (.off, none, some 129_500))
      ∧ (((nextOf (exec (.rstnHeldLow 400) endsInPulse)).map fun t => (t.front.loop, t.power.tally, t.front.lastPulse))
        = some (.off, some Tally.cleared, some 129_500)) := by decide

theorem test_witness_LoopBurstSwitchesSetting :
    (let s := waking .off Tally.cleared;
      s.meets .loopBurstStart (s.setTime 50_000) ∧ s.power.state = .waking ∧ s.power.wakeStart = some 0
        ∧ s.front.loop = .off ∧ s.now ≤ 0 + 50_000)
    ∧ ((startsInPulse.meets .loopBurstStart (startsInPulse.setTime 50_000))
      ∧ (startsInPulse.setTime 50_000).front.pulseAtHand = some 49_500
      ∧ (startsInPulse.setTime 50_000).line.link ≠ .strapFault)
    ∧ (let s := waking (.burst 50_000) Tally.cleared;
      s.meets .loopBurstEnd (s.setTime 130_000) ∧ s.front.loop = .burst 50_000)
    ∧ (endsInPulse.meets .loopBurstEnd (endsInPulse.setTime 130_000)
      ∧ (endsInPulse.setTime 130_000).front.pulseAtHand = some 129_500
      ∧ (endsInPulse.setTime 130_000).front.planSetting ≠ { edge := .rising, width := 5 }) :=
  ⟨⟨meets_at _ _ _ rfl (by decide) (by decide) (by decide), by decide, by decide, by decide, by decide⟩,
    ⟨meets_at _ _ _ rfl (by decide) (by decide) (by decide), by decide, by decide⟩,
    ⟨meets_at _ _ _ rfl (by decide) (by decide) (by decide), by decide⟩,
    ⟨meets_at _ _ _ rfl (by decide) (by decide) (by decide), by decide, by decide⟩⟩

/-- R154: a pulse accepted at the very instant of the burst start is counted with no period where the burst start is taken
first, and discarded where the pulse is (log 31). -/
theorem test_pulse_at_burst_start_is_counted :
    (((nextOf (exec .loopBurstStart startsInPulse)).map fun t => (t.power.tally, t.front.lastPulse))
        = some (some { count := 1, smallest := none, largest := none }, some 49_500))
      ∧ (((nextOf (exec .pulseAccepted startsInPulse)).map fun t => (t.power.tally, t.front.lastPulse))
        = some (some Tally.cleared, some 49_500)) := by decide

/-- R15: LOOP in a burst that starts at 50 ms: both ends of the first and of the last pulse, and OFF. -/
theorem test_loop_pin :
    (∀ t, t = 50_000 ∨ t = 51_999 ∨ t = 126_000 ∨ t = 127_999 →
      ({ State.reset.front with timeBase := t, loop := .burst 50_000 } : FrontEnd).loopPin = .high)
    ∧ (∀ t, t = 52_000 ∨ t = 53_999 ∨ t = 128_000 ∨ t = 130_000 →
      ({ State.reset.front with timeBase := t, loop := .burst 50_000 } : FrontEnd).loopPin = .low)
    ∧ State.reset.front.loopPin = .low := by
  refine ⟨?_, ?_, by decide⟩ <;> rintro t (rfl | rfl | rfl | rfl) <;> decide

/-- A WAKING at 150 ms, with or without a remembered MUSTER of a plan number. -/
def wakingEnds (tally : Tally) (call : Option MusterCall) : State :=
  let w := waking .off tally
  { w with
    front := { w.front with timeBase := 140_000 }
    plan := loaded.plan
    coord := { loaded.coord with
      remembered := call, stage := if call.isSome then .remembered else .none
      home := if call.isSome then some .loaded else none
      windowEnd := if call.isSome then some 5_000_000 else none } }

/-- Twenty pulses with the periods 3,800 and 4,200 µs pass, nineteen and a period of 4,201 µs do not; no MUSTER, one that
fits and one that does not. -/
theorem test_witness_WakingEndJudgesSelfTest :
    ∀ t call, t = { count := 20, smallest := some 3_800, largest := some 4_200 }
        ∨ t = { count := 19, smallest := some 3_800, largest := some 4_200 }
        ∨ t = { count := 20, smallest := some 3_800, largest := some 4_201 } →
      call = none ∨ call = some { plan := 7, count := 1 } ∨ call = some { plan := 8, count := 1 } →
      let s := wakingEnds t call;
      s.meets .wakingEnd (s.setTime 150_000) ∧ (s.setTime 150_000).line.link ≠ .strapFault
        ∧ (s.setTime 150_000).power.tally = some t ∧ (s.setTime 150_000).coord.remembered = call
        ∧ (s.setTime 150_000).coord.run = .loaded ∧ (s.setTime 150_000).plan.number = 7
        ∧ (s.setTime 150_000).plan.length = 1 := by
  rintro t call (rfl | rfl | rfl) (rfl | rfl | rfl) <;>
    exact ⟨meets_at _ _ _ rfl (by decide) (by decide) (by decide), by decide, by decide, by decide, by decide, by decide,
      by decide⟩

/-- AWAKE, PARKED with no dwell, PARKED one µs after its dwell and at its very end. -/
theorem test_witness_ClampClosingWakesOrIsHeld :
    (awake.reaches 0 (awake.elapse 0) ∧ (awake.elapse 0).power.state ≠ .parked)
    ∧ (onLine.reaches 0 (onLine.elapse 0) ∧ (onLine.elapse 0).power.state = .parked
      ∧ (onLine.elapse 0).power.parkedSince = none)
    ∧ ((parked false).reaches 500_001 ((parked false).elapse 500_001)
      ∧ ((parked false).elapse 500_001).power.state = .parked
      ∧ ((parked false).elapse 500_001).power.parkedSince = none)
    ∧ ((parked false).reaches 500_000 ((parked false).elapse 500_000)
      ∧ ((parked false).elapse 500_000).power.parkedSince = some 0
      ∧ ((parked false).elapse 500_000).now ≤ 0 + 500_000) :=
  ⟨⟨⟨rfl, rfl⟩, by decide⟩, ⟨⟨rfl, rfl⟩, by decide, by decide⟩, ⟨⟨rfl, rfl⟩, by decide, by decide⟩,
    ⟨⟨rfl, rfl⟩, by decide, by decide⟩⟩

theorem test_witness_ClampOpeningParks :
    (∀ s, s = { State.reset with line := { State.reset.line with strap := 0, link := .strapFault } } ∨ s = parked true
        ∨ s = { awake with power := { awake.power with state := .headFault } }
        ∨ s = waking (.burst 0) Tally.cleared ∨ s = wakingEnds Tally.cleared (some { plan := 7, count := 1 })
        ∨ s = closed (.energised 0 400_000) ∨ s = loaded ∨ s = inRun errorSlot .closing []
        ∨ s = enrolled .loaded
        ∨ s = { loaded with coord := { loaded.coord with stage := .awaiting, windowEnd := some 5_000_000 } } →
      s.reaches 0 (s.elapse 0) ∧ (s.elapse 0).coord.run = s.coord.run ∧ (s.elapse 0).coord.stage = s.coord.stage
        ∧ (s.elapse 0).power.state = s.power.state ∧ (s.elapse 0).line.link = s.line.link)
    ∧ (endsInPulse.reaches 400 (endsInPulse.elapse 400) ∧ (endsInPulse.elapse 400).line.link ≠ .strapFault
      ∧ (endsInPulse.elapse 400).power.state = .waking ∧ (endsInPulse.elapse 400).coord.stage ≠ .remembered
      ∧ (endsInPulse.elapse 400).front.loop ≠ .off
      ∧ (endsInPulse.elapse 400).front.planSetting ≠ { edge := .rising, width := 5 }
      ∧ (endsInPulse.elapse 400).front.pulseAtHand = some 129_500) := by
  refine ⟨?_, ⟨rfl, rfl⟩, by decide, by decide, by decide, by decide, by decide, by decide⟩
  rintro s (rfl | rfl | rfl | rfl | rfl | rfl | rfl | rfl | rfl | rfl) <;>
    exact ⟨⟨rfl, rfl⟩, by decide, by decide, by decide, by decide⟩

theorem test_witness_ClampOpeningEndsRun :
    ∀ run, run = .gathering ∨ run = .measuring ∨ run = .reported ∨ run = .suspended →
      let s := inRun errorSlot run [member 1 .waiting];
      s.reaches 0 (s.elapse 0) ∧ (s.elapse 0).line.link ≠ .strapFault ∧ (s.elapse 0).power.state = .awake
        ∧ (s.elapse 0).coord.run = run ∧ (s.elapse 0).coord.step = some 0 := by
  rintro run (rfl | rfl | rfl | rfl) <;> exact ⟨⟨rfl, rfl⟩, by decide, by decide, by decide, by decide⟩

/-! ## Witnesses: the bench line -/

/-- A queue with an entry of every kind. -/
def fullQueue : OutQueue :=
  { lapse := some (Entry.fresh { step := 0, phase := .measure }), parked := some (Entry.fresh .clampOpen)
    done := some (Entry.fresh { step := 0, verdict := .pass, attempt := 1, error := some (-5) })
    ready := some (Entry.fresh 0), hold := some (Entry.fresh 0), present := some (Entry.fresh 7)
    reply := some (Entry.fresh { kind := .roster, slot := 0 }) }

theorem test_witness_QueueOffersByPriority :
    (fullQueue.lapse.isSome ∧ fullQueue.parked.isSome ∧ fullQueue.done.isSome ∧ fullQueue.ready.isSome
      ∧ fullQueue.hold.isSome ∧ fullQueue.present.isSome ∧ fullQueue.reply.isSome)
    ∧ State.reset.line.queue = OutQueue.empty := by decide

/-- A station that has a READY to send. -/
def readyToSend : State :=
  { inRun errorSlot .gathering [member 1 .waiting] with
    line := { onLine.line with queue := { OutQueue.empty with ready := some (Entry.fresh 0) } } }

/-- Priority 6 and position 1 give the arbitration field C1h; C0h wins against it, C2h is no bit that can be read. A
JOINING station, and one in a gap. -/
theorem test_witness_AttemptStartContends :
    (onLine.reaches 0 (onLine.elapse 0) ∧ (onLine.elapse 0).offer = none)
    ∧ (readyToSend.reaches 0 (readyToSend.elapse 0) ∧ (readyToSend.elapse 0).line.link = .normal
      ∧ (readyToSend.elapse 0).line.phase = .idle ∧ (readyToSend.elapse 0).line.role = .none
      ∧ (readyToSend.elapse 0).offer = some (.ready 0)
      ∧ (StationFrame.ready 0).kind.priority ++ (readyToSend.elapse 0).line.strap = 0xC1
      ∧ (0xC0 : BitVec 9) < 0xC1 ∧ (0xC1 : BitVec 9) < 0xC2)
    ∧ (State.reset.reaches 0 (State.reset.elapse 0) ∧ (State.reset.elapse 0).line.phase = .joining)
    ∧ ((taken awake).reaches 0 ((taken awake).elapse 0) ∧ ((taken awake).elapse 0).line.phase ≠ .idle
      ∧ ((taken awake).elapse 0).line.phase ≠ .joining) :=
  ⟨⟨⟨rfl, rfl⟩, by decide⟩,
    ⟨⟨rfl, rfl⟩, by decide, by decide, by decide, by decide, by decide, by decide, by decide⟩,
    ⟨⟨rfl, rfl⟩, by decide⟩, ⟨⟨rfl, rfl⟩, by decide, by decide⟩⟩

/-- A peer's frame of two groups: FRAME from its start bit, END from its end slot, GAP from the end of END (R76). -/
theorem test_peer_frame_phases :
    ((nextOf (exec (.attemptStart 0 .peer 2) awake)).map fun t =>
        [t.line.phase, (t.elapse 399).line.phase, (t.elapse 400).line.phase])
      = some [.frame, .frame, .endInterval] := by decide

/-- A station whose READY is on the line, with a failed-attempt count. -/
def sendingReady (role : AttemptRole) (fails : Nat) : State :=
  { readyToSend with
    line := { readyToSend.line with
      phase := .frame, role := role, transmit := some (.ready 0)
      queue := { OutQueue.empty with ready := some { frame := 0, fails := fails, offered := true } } } }

/-- JOINING; no attempt of its own; the fifteenth and the sixteenth failed attempt. -/
theorem test_witness_AbortedFrameCountsFailure :
    (State.reset.reaches 0 (State.reset.elapse 0) ∧ (State.reset.elapse 0).line.phase = .joining)
    ∧ (onLine.reaches 0 (onLine.elapse 0) ∧ (onLine.elapse 0).line.phase ≠ .joining
      ∧ (onLine.elapse 0).line.role = .none)
    ∧ (∀ role fails, role = .sending ∨ role = .aborting → fails = 14 ∨ fails = 15 →
      let s := sendingReady role fails;
      s.reaches 0 (s.elapse 0) ∧ (s.elapse 0).line.phase ≠ .joining ∧ (s.elapse 0).line.role = role
        ∧ (s.elapse 0).line.transmit = some (.ready 0)
        ∧ ((s.elapse 0).line.queue.change .ready .fail).fails .ready = fails + 1) := by
  refine ⟨⟨⟨rfl, rfl⟩, by decide⟩, ⟨⟨rfl, rfl⟩, by decide, by decide⟩, ?_⟩
  rintro role fails (rfl | rfl) (rfl | rfl) <;>
    exact ⟨⟨rfl, rfl⟩, by decide, by decide, by decide, by decide⟩

/-- A malformed frame of another position and of the own one, groups that are bad, a QUERY of record kind 0 and one of
record kind 6, a READY of the own position, in each link state. -/
theorem test_witness_ForeignOwnPositionMakesDuplicate :
    (∀ l, l = .normal ∨ l = .linkFault ∨ l = .duplicate →
      let s := { awake with line := { awake.line with link := l } };
      s.takes 0 (taken s) ∧ (taken s).line.link = l ∧ (taken s).line.role = .none ∧ (taken s).line.strap = 1)
    ∧ (wellFormedFrame [0x308E, 0] = false ∧ sourceOf [0x308E, 0] = 1 ∧ wellFormedFrame [0x310E, 0] = false
      ∧ sourceOf [0x310E, 0] ≠ 1 ∧ frameBad (groupsOf [0x308E, 0]) = false ∧ frameBad (groupsOf [0x310E, 0]) = false
      ∧ frameBad (groupsOf [0x308E]) = true ∧ stationFrameOf (.ready 0 1 0) = some (0, 1, .ready 0))
    ∧ (∀ w3 : Word, w3 = 0x0FFF ∨ w3 = 0x6000 →
      frameBad (groupsOf [0b1011_00000_10001_10, 0b0001_00000_00000_00, w3]) = false
        ∧ wellFormedFrame [0b1011_00000_10001_10, 0b0001_00000_00000_00, w3] = true
        ∧ (0b1011_00000_10001_10 : Word).extractLsb' 2 5 = 0x11 ∧ (w3.toNat < 0x1000 ∨ 0x6000 ≤ w3.toNat)
        ∧ sourceOf [0b1011_00000_10001_10, 0b0001_00000_00000_00, w3] = 0) := by
  refine ⟨?_, by decide, ?_⟩
  · rintro l (rfl | rfl | rfl) <;> exact ⟨takes_now _ rfl (by decide), by decide, by decide, by decide⟩
  · rintro w3 (rfl | rfl) <;> decide

/-- A LINK-FAULT station does not take a HALT that it marked bad (R79); a NORMAL one takes the good one. -/
theorem test_missed_halt :
    nextOf (exec (.malformedFrame 0 [(0x200E, 0xDE), (0x0000, 0x3C)])
        { loaded with line := { loaded.line with link := .linkFault } })
      = some (taken { loaded with line := { loaded.line with link := .linkFault } }) := by decide

/-- A station in STRAP-FAULT. -/
def strapFault : State := { onLine with line := { onLine.line with link := .strapFault, strap := 0 } }

/-- JOINING at 240 µs and one µs before, and past JOINING; JOINING and STRAP-FAULT at a HALT, at groups that are bad and
at a malformed frame; a console frame for another position. -/
theorem test_witness_FramesNotForTheStation :
    (State.reset.reaches 240 (State.reset.elapse 240) ∧ (State.reset.elapse 240).line.phase = .joining
      ∧ (State.reset.elapse 240).line.recessiveSince + 240 ≤ (State.reset.elapse 240).now)
    ∧ (State.reset.reaches 239 (State.reset.elapse 239)
      ∧ (State.reset.elapse 239).now < (State.reset.elapse 239).line.recessiveSince + 240)
    ∧ (onLine.reaches 0 (onLine.elapse 0) ∧ (onLine.elapse 0).line.phase ≠ .joining)
    ∧ (frameWords (.halt 0 everyone) = some [0x200E, 0x0000] ∧ afterOf (.halt 0 everyone) = 0
      ∧ State.reset.reaches 0 (State.reset.elapse 0) ∧ (State.reset.elapse 0).line.phase = .joining
      ∧ strapFault.reaches 0 (strapFault.elapse 0) ∧ (strapFault.elapse 0).line.phase ≠ .joining
      ∧ (strapFault.elapse 0).line.link = .strapFault)
    ∧ (frameBad (groupsOf [0x200E]) = true ∧ commandOf 0 ((groupsOf [0x300E, 0x0000]).map Prod.fst) = none)
    ∧ awake.takesOther 0 nobody (taken awake) :=
  ⟨⟨⟨rfl, rfl⟩, by decide, by decide⟩, ⟨⟨rfl, rfl⟩, by decide⟩, ⟨⟨rfl, rfl⟩, by decide⟩,
    ⟨by decide, rfl, ⟨rfl, rfl⟩, by decide, ⟨rfl, rfl⟩, by decide, by decide⟩, by decide,
    takes_now _ rfl (by decide), by decide⟩

/-- R80, R160: JOINING_END before 30 recessive bit times does not open the line; a frame heard starts the count again. -/
theorem test_joining_takes_240_us :
    ((nextOf (exec (.joiningEnd 239) State.reset)).map fun t => t.line.phase) = some .joining
      ∧ ((nextOf (exec (.joiningEnd 240) State.reset)).map fun t => t.line.phase) = some .idle
      ∧ ((nextOf (exec (.halt 500 everyone) State.reset)).map fun t => t.line.recessiveSince) = some 468 := by decide

/-- A frame of the own station that is on the line. -/
def sending (s : State) (f : StationFrame) : State :=
  { s with line := { s.line with phase := .frame, role := .sending, transmit := some f } }

/-- The state in which the own frame is taken. -/
def takenOwn (s : State) (f : StationFrame) : State :=
  { (s.elapse 0).afterFrame with
    line := { (s.elapse 0).afterFrame.line with
      queue := (s.elapse 0).line.queue.change (stationKindOf f) .take, transmit := none, role := .none } }

theorem test_witness_QueriesQueueReplies :
    awake.takesMatching 0 everyone (taken awake)
    ∧ awake.takesPeer 0 2 (.reply [0x1000, 0, 0, 0, 0]) (taken awake)
    ∧ (let s := sending awake (.reply [0x1000, 0, 0, 0, 0]);
      s.takesOwn 0 1 (.reply [0x1000, 0, 0, 0, 0]) (takenOwn s (.reply [0x1000, 0, 0, 0, 0]))) :=
  ⟨⟨takes_now _ rfl (by decide), by decide⟩, ⟨takes_now _ rfl (by decide), by decide, by decide⟩,
    ⟨rfl, by decide, by decide, by decide, by decide, by decide, rfl⟩⟩

/-! ## Witnesses: plan store, enrollment and the run frames -/

/-- A PLAN payload of a number. -/
def planPayload (number : BitVec 16) (cref : BitVec 32) : PlanPayload :=
  { number := number, cref := cref, edge := .falling, filter := 0, gather := 0, windowFirst := 0, windowLast := 0 }

theorem test_witness_AppliedPlanReplacesPlan :
    ∀ s, s = awake ∨ s = loaded ∨ s = inRun errorSlot .closing [] →
      s.takesMatching 0 everyone (taken s)
        ∧ ((taken s).coord.run = .idle ∨ (taken s).coord.run = .loaded ∨ (taken s).coord.run = .closing)
        ∧ (planPayload 7 1).number ≠ 0 ∧ 1 ≤ (planPayload 7 1).cref.toNat
        ∧ (planPayload 7 2_000_000_000).cref.toNat ≤ 2_000_000_000
        ∧ ((taken s).plan.number = 7 ∨ (taken s).plan.number ≠ 7) := by
  rintro s (rfl | rfl | rfl) <;>
    exact ⟨⟨takes_now _ rfl (by decide), by decide⟩, by decide, by decide, by decide, by decide, by decide⟩

/-- The first and the last slot of the window. -/
theorem test_witness_AdmittedStepFillsSlot :
    ∀ run cursor, run = .loaded ∨ run = .closing → cursor = 1 ∨ cursor = 16 →
      let s := { loaded with
        plan := { loaded.plan with cursor := cursor }, coord := { loaded.coord with run := run } };
      s.takesMatching 0 everyone (taken s) ∧ (taken s).coord.run = run ∧ (taken s).plan.sessionOpen = true
        ∧ (taken s).plan.windowFirst ≤ (taken s).plan.cursor ∧ (taken s).plan.cursor ≤ (taken s).plan.windowLast
        ∧ ∃ k, (taken s).plan.cursor = stepNumber k := by
  rintro run cursor (rfl | rfl) (rfl | rfl)
  · exact ⟨⟨takes_now _ rfl (by decide), by decide⟩, by decide, by decide, by decide, by decide, 0, by decide⟩
  · exact ⟨⟨takes_now _ rfl (by decide), by decide⟩, by decide, by decide, by decide, by decide, 15, by decide⟩
  · exact ⟨⟨takes_now _ rfl (by decide), by decide⟩, by decide, by decide, by decide, by decide, 0, by decide⟩
  · exact ⟨⟨takes_now _ rfl (by decide), by decide⟩, by decide, by decide, by decide, by decide, 15, by decide⟩

/-- R28: a STEP refused in ENROLLED sets the refused flag, moves no cursor and makes the session SHUT (log 37), so that a
STEP after the enrollment fills no slot. -/
theorem test_refused_step_shuts_session :
    ((nextOf (exec (.step 0 everyone (stepPayload 1 4)) (enrolled .loaded))).map fun t =>
        (t.plan.refused, t.plan.sessionOpen, t.plan.cursor, t.plan.length)) = some (true, false, 2, 1)
      ∧ ((nextOf (exec (.step 0 everyone (stepPayload 1 4)) (loaded.mapPlan fun p => { p with sessionOpen := false }))).map
        fun t => (t.plan.refused, t.plan.sessionOpen, t.plan.cursor, t.plan.length)) = some (true, false, 2, 1) := by
  decide

/-- A run, a plan number of 0, a Cref out of range; a SHUT session; a cursor past the window. -/
theorem test_witness_RefusedPlanTrafficSetsFlags :
    (enrolled .loaded).takesMatching 0 everyone (taken (enrolled .loaded))
    ∧ (taken (enrolled .loaded)).coord.run = .enrolled
    ∧ (planPayload 0 1).number = 0 ∧ ¬1 ≤ (planPayload 7 0).cref.toNat
    ∧ ¬(planPayload 7 2_000_000_001).cref.toNat ≤ 2_000_000_000
    ∧ awake.takesMatching 0 everyone (taken awake) ∧ (taken awake).coord.run = .idle
    ∧ (taken awake).plan.sessionOpen = false
    ∧ (let s := { loaded with plan := { loaded.plan with cursor := 17 } };
      s.takesMatching 0 everyone (taken s) ∧ (taken s).coord.run = .loaded ∧ (taken s).plan.sessionOpen = true
        ∧ (taken s).plan.cursor = (taken s).plan.windowLast + 1) :=
  ⟨⟨takes_now _ rfl (by decide), by decide⟩, by decide, by decide, by decide, by decide,
    ⟨takes_now _ rfl (by decide), by decide⟩, by decide, by decide,
    ⟨takes_now _ rfl (by decide), by decide⟩, by decide, by decide, by decide⟩

theorem test_witness_MusterStartsEnrollment :
    ∀ s, s = loaded ∨ s = inRun errorSlot .closing [] ∨ s = enrolled .closing ∨ s = enrolled .loaded
        ∨ s = wakingEnds Tally.cleared none ∨ s = parked false
        ∨ s = { loaded with power := { loaded.power with state := .headFault } }
        ∨ s = inRun errorSlot .gathering [member 1 .waiting] →
      s.takesMatching 0 everyone (taken s) ∧ (taken s).coord.run = s.coord.run
        ∧ (taken s).power.state = s.power.state ∧ (taken s).coord.home = s.coord.home
        ∧ (s.plan.number = 7 → (7 : BitVec 16) = (taken s).plan.number ∧ (1 : BitVec 5).toNat = (taken s).plan.length)
        ∧ ¬((8 : BitVec 16) = (taken s).plan.number) := by
  rintro s (rfl | rfl | rfl | rfl | rfl | rfl | rfl | rfl) <;>
    exact ⟨⟨takes_now _ rfl (by decide), by decide⟩, by decide, by decide, by decide, by decide, by decide⟩

theorem test_witness_RunStartsGathering :
    ((enrolled .loaded).takesMatching 0 everyone (taken (enrolled .loaded))
      ∧ (taken (enrolled .loaded)).coord.run = .enrolled ∧ (7 : BitVec 16) = (taken (enrolled .loaded)).plan.number
      ∧ (1 : BitVec 5).toNat = stepNumber 0 ∧ stepNumber 0 ≤ (taken (enrolled .loaded)).plan.length
      ∧ (taken (enrolled .loaded)).plan.length < (2 : BitVec 5).toNat
      ∧ (∀ i : Fin 16, State.reset.coord.results[i] =
        if (0 : StepIx).val ≤ i.val ∧ i.val < (taken (enrolled .loaded)).plan.length
        then ((taken (enrolled .loaded)).coord.results[i]).emptied .none
        else (taken (enrolled .loaded)).coord.results[i]))
    ∧ (loaded.takesMatching 0 everyone (taken loaded) ∧ (taken loaded).coord.run ≠ .enrolled) :=
  ⟨⟨⟨takes_now _ rfl (by decide), by decide⟩, by decide, by decide, by decide, by decide, by decide, by decide⟩,
    ⟨takes_now _ rfl (by decide), by decide⟩, by decide⟩

theorem test_witness_MatchingHaltEndsRun :
    ∀ s, s = inRun errorSlot .gathering [member 1 .waiting] ∨ s = inRun errorSlot .measuring [member 1 .ready]
        ∨ s = inRun errorSlot .reported [member 1 .ready] ∨ s = inRun errorSlot .suspended [member 1 .ready]
        ∨ s = enrolled .closing ∨ s = enrolled .loaded ∨ s = awake ∨ s = loaded ∨ s = inRun errorSlot .closing []
        ∨ s = closed .off →
      s.takesMatching 0 everyone (taken s) ∧ (taken s).coord.run = s.coord.run ∧ (taken s).coord.step = s.coord.step
        ∧ (taken s).coord.home = s.coord.home := by
  rintro s (rfl | rfl | rfl | rfl | rfl | rfl | rfl | rfl | rfl | rfl) <;>
    exact ⟨⟨takes_now _ rfl (by decide), by decide⟩, by decide, by decide, by decide⟩

/-- Every run state, with the peer of position 2 the last member that is not ready or not reported, and with another. -/
theorem test_witness_StrikesFollowFrame :
    (∀ s, s = loaded ∨ s = enrolled .loaded ∨ s = inRun errorSlot .gathering [member 1 .ready, member 2 .waiting]
        ∨ s = inRun errorSlot .gathering [member 1 .ready, member 2 .waiting, member 3 .waiting]
        ∨ s = inRun errorSlot .reported [member 1 (.reported .pass), member 2 .ready]
        ∨ s = inRun errorSlot .measuring [member 1 .ready, member 2 .ready] →
      s.takesOther 0 nobody (taken s) ∧ s.takesPeer 0 2 (.parked .headFault) (taken s)
        ∧ (taken s).coord.run = s.coord.run ∧ (taken s).coord.step = s.coord.step ∧ (taken s).plan.length = 1)
    ∧ (let s := sending awake (.parked .clampOpen);
      s.takesOwn 0 1 (.parked .clampOpen) (takenOwn s (.parked .clampOpen))) := by
  refine ⟨?_, rfl, by decide, by decide, by decide, by decide, by decide, rfl⟩
  rintro s (rfl | rfl | rfl | rfl | rfl | rfl) <;>
    exact ⟨⟨takes_now _ rfl (by decide), by decide⟩, ⟨takes_now _ rfl (by decide), by decide, by decide⟩, by decide,
      by decide, by decide⟩

/-- A WAKING whose burst is over and whose plan setting is another, with a pulse whose acceptance instant is now. -/
def restartsInPulse : State :=
  let w := waking .off Tally.cleared
  { w with
    front := { w.front with
      timeBase := 131_000, mtp := .low, input := .qualify, candidate := some 130_100
      planSetting := { edge := .falling, width := 9 } } }

theorem test_witness_ResetKeepsOrEmptiesPlan :
    (∀ s, s = loaded ∨ s = closed (.energised 0 400_000) → s.takesMatching 0 everyone (taken s))
    ∧ (restartsInPulse.takesMatching 0 everyone (taken restartsInPulse)
      ∧ (taken restartsInPulse).front.pulseAtHand = some 130_100 ∧ (taken restartsInPulse).front.loop = .off
      ∧ (taken restartsInPulse).power.wakeStart = some 0 ∧ 0 + 50_000 < (taken restartsInPulse).now) := by
  refine ⟨?_, ⟨takes_now _ rfl (by decide), by decide⟩, by decide, by decide, by decide, by decide⟩
  rintro s (rfl | rfl) <;> exact ⟨takes_now _ rfl (by decide), by decide⟩

/-- R8, R18, R154: a RESET with scope ALL that restarts the filter at a pulse's acceptance instant counts the pulse. -/
theorem test_reset_all_counts_pulse_at_hand :
    ((nextOf (exec (.resetAll 0 everyone) restartsInPulse)).map fun t => (t.power.tally, t.front.lastPulse))
      = some (some { count := 1, smallest := none, largest := none }, some 130_100) := by decide

/-! ## Witnesses: closure, the source and the station frames -/

/-- CLOSING with a passed and with a failed result; CLOSED with a dwell that may and one that may not be extended. -/
theorem test_witness_CloseSealsOrRecords :
    (∀ v, v = .pass ∨ v = .fail →
      let c := inRun errorSlot .closing []
      let s := { c with coord := { c.coord with results := c.coord.results.set 0 { c.result 0 with verdict := v } } };
      s.takesMatching 0 everyone (taken s) ∧ (taken s).coord.run = .closing ∧ (taken s).power.state = .awake
        ∧ ((taken s).coord.results.toList.take (taken s).plan.length).map (fun r => r.verdict) = [v])
    ∧ (∀ d, d = 400_000 ∨ d = 1_200_000 →
      let s := closed (.energised 0 d);
      s.takesMatching 0 everyone (taken s) ∧ (taken s).coord.run = .closed
        ∧ (taken s).closure.press = .energised 0 d)
    ∧ ((closed .off).takesMatching 0 everyone (taken (closed .off)) ∧ (taken (closed .off)).closure.press = .off)
    ∧ (loaded.takesMatching 0 everyone (taken loaded) ∧ (taken loaded).coord.run = .loaded) := by
  refine ⟨?_, ?_, ⟨⟨takes_now _ rfl (by decide), by decide⟩, by decide⟩,
    ⟨⟨takes_now _ rfl (by decide), by decide⟩, by decide⟩⟩
  · rintro v (rfl | rfl) <;> exact ⟨⟨takes_now _ rfl (by decide), by decide⟩, by decide, by decide, by decide⟩
  · rintro d (rfl | rfl) <;> exact ⟨⟨takes_now _ rfl (by decide), by decide⟩, by decide, by decide⟩

theorem test_witness_ReleaseFreesClosedStation :
    ((closed .off).takesMatching 0 everyone (taken (closed .off)) ∧ (taken (closed .off)).coord.run = .closed)
    ∧ (loaded.takesMatching 0 everyone (taken loaded) ∧ (taken loaded).coord.run ≠ .closed) :=
  ⟨⟨⟨takes_now _ rfl (by decide), by decide⟩, by decide⟩, ⟨⟨takes_now _ rfl (by decide), by decide⟩, by decide⟩⟩

/-- A station in a step that has triggered, with its marks and restarts. -/
def disturbedAt (run : RunState) (suspension : Bool) (restarts : Nat) : State :=
  let s := inRun errorSlot run [member 1 .ready, member 2 .ready]
  { s with coord := { s.coord with suspension := suspension, restarts := restarts } }

theorem test_witness_SettledTriggersOrRestarts :
    (loaded.takes 0 (taken loaded) ∧ (taken loaded).coord.step = none)
    ∧ (∀ s, s = disturbedAt .suspended true 2 ∨ s = inRun errorSlot .gathering [member 1 .ready]
        ∨ s = inRun errorSlot .gathering [member 1 .waiting] ∨ s = disturbedAt .measuring false 0 →
      s.takes 0 (taken s) ∧ (taken s).coord.step = some 0 ∧ (taken s).slot 0 = some errorSlot
        ∧ (taken s).coord.suspension = s.coord.suspension ∧ (taken s).coord.run = s.coord.run
        ∧ (everyReady (taken s).coord.roster ↔ everyReady s.coord.roster))
    ∧ (SourceView.settled 4).isAt errorSlot ∧ ¬(SourceView.settled 5).isAt errorSlot := by
  refine ⟨⟨takes_now _ rfl (by decide), by decide⟩, ?_, (SourceView.settledAt_iff _ _).1 (by decide),
    fun h => absurd ((SourceView.settledAt_iff _ _).2 h) (by decide)⟩
  rintro s (rfl | rfl | rfl | rfl) <;>
    exact ⟨takes_now _ rfl (by decide), by decide, by decide, by decide, by decide, by decide⟩

theorem test_witness_DisturbedSuspendsOrVoids :
    ∀ s, s = loaded ∨ s = inRun errorSlot .gathering [member 1 .waiting] ∨ s = disturbedAt .reported true 1
        ∨ s = disturbedAt .measuring false 2 ∨ s = disturbedAt .reported false 2
        ∨ s = disturbedAt .measuring false 3 ∨ s = disturbedAt .reported false 3 →
      s.takes 0 (taken s) ∧ (taken s).coord.step = s.coord.step ∧ (taken s).coord.run = s.coord.run
        ∧ (taken s).coord.suspension = s.coord.suspension ∧ (taken s).coord.restarts = s.coord.restarts
        ∧ stepNumber 0 ≤ (taken s).plan.length := by
  rintro s (rfl | rfl | rfl | rfl | rfl | rfl | rfl) <;>
    exact ⟨takes_now _ rfl (by decide), by decide, by decide, by decide, by decide, by decide⟩

/-- The own PRESENT, a peer's at either end of the roster, one listed already, and one of another plan. -/
theorem test_witness_PresentEntersRoster :
    (let s := sending { loaded with coord := { loaded.coord with stage := .awaiting } } (.present 7);
      s.takesOwn 0 1 (.present 7) (takenOwn s (.present 7)) ∧ (takenOwn s (.present 7)).rosterSafe
        ∧ (takenOwn s (.present 7)).coord.stage = .awaiting ∧ (takenOwn s (.present 7)).plan.number = 7
        ∧ (takenOwn s (.present 7)).coord.roster.any (fun m => m.position == 1) = false)
    ∧ (∀ p, p = 2 ∨ p = 30 →
      let s := { enrolled .loaded with
        coord := { (enrolled .loaded).coord with roster := [member 1 .waiting, member 30 .waiting] } };
      s.takesPeer 0 p (.present 7) (taken s) ∧ (taken s).rosterSafe ∧ (taken s).coord.run = .enrolled
        ∧ (taken s).coord.stage ≠ .remembered ∧ (taken s).plan.number = 7)
    ∧ (let s := wakingEnds Tally.cleared (some { plan := 7, count := 1 });
      s.takesPeer 0 2 (.present 8) (taken s) ∧ (taken s).rosterSafe ∧ (taken s).coord.stage = .remembered
        ∧ (taken s).coord.remembered.map (fun m => m.plan) = some 7)
    ∧ (loaded.takesPeer 0 2 (.present 7) (taken loaded) ∧ (taken loaded).coord.stage = .none
      ∧ (taken loaded).coord.run ≠ .enrolled) := by
  refine ⟨⟨⟨rfl, by decide, by decide, by decide, by decide, by decide, rfl⟩, by decide, by decide, by decide,
    by decide⟩, ?_, ⟨⟨takes_now _ rfl (by decide), by decide, by decide⟩, by decide, by decide, by decide⟩,
    ⟨⟨takes_now _ rfl (by decide), by decide, by decide⟩, by decide, by decide⟩⟩
  rintro p (rfl | rfl) <;>
    exact ⟨⟨takes_now _ rfl (by decide), by decide, by decide⟩, by decide, by decide, by decide, by decide⟩

/-- The last READY, one before the last, and one outside GATHERING. -/
theorem test_witness_ReadyMarksMemberAndTriggers :
    (∀ s, s = inRun errorSlot .gathering [member 1 .ready, member 2 .waiting]
        ∨ s = inRun errorSlot .gathering [member 1 .waiting, member 2 .waiting]
        ∨ s = inRun errorSlot .measuring [member 1 .ready, member 2 .ready] →
      s.takesPeer 0 2 (.ready 0) (taken s) ∧ (taken s).coord.run = s.coord.run ∧ (taken s).coord.step = some 0
        ∧ memberAt 2 (taken s).coord.roster ∧ (taken s).slot 0 = some errorSlot
        ∧ (taken s).coord.source = .settled 4)
    ∧ (let s := sending (inRun errorSlot .gathering [member 1 .waiting]) (.ready 0);
      s.takesOwn 0 1 (.ready 0) (takenOwn s (.ready 0)) ∧ memberAt 1 (takenOwn s (.ready 0)).coord.roster) := by
  refine ⟨?_, ⟨rfl, by decide, by decide, by decide, by decide, by decide, rfl⟩, by decide⟩
  rintro s (rfl | rfl | rfl) <;>
    exact ⟨⟨takes_now _ rfl (by decide), by decide, by decide⟩, by decide, by decide, by decide, by decide, by decide⟩

/-- A member's HOLD with no deadline, with a new deadline one µs ahead and at the present instant, and past its
allowance. -/
theorem test_witness_HoldMovesDeadline :
    (∀ holds deadline now, (holds = 0 ∨ holds = 1) → (deadline = none ∨ deadline = some 1) →
        (now = 10_000_000 ∨ now = 10_000_001) →
      let r := inRun errorSlot .measuring [member 1 .ready, member 2 .ready]
      let s := { r with
        front := { r.front with timeBase := now }
        coord := { r.coord with holds := holds, deadline := deadline, expired := true } };
      s.takesPeer 0 2 (.hold 0) (taken s) ∧ (taken s).coord.run = .measuring ∧ (taken s).coord.step = some 0
        ∧ memberAt 2 (taken s).coord.roster ∧ (taken s).slot 0 = some errorSlot ∧ (taken s).coord.holds = holds
        ∧ (taken s).coord.deadline = deadline ∧ (taken s).now = now)
    ∧ (loaded.takesPeer 0 2 (.hold 0) (taken loaded) ∧ (taken loaded).coord.run = .loaded) := by
  refine ⟨?_, ⟨takes_now _ rfl (by decide), by decide, by decide⟩, by decide⟩
  rintro holds deadline now (rfl | rfl) (rfl | rfl) (rfl | rfl) <;>
    exact ⟨⟨takes_now _ rfl (by decide), by decide, by decide⟩, by decide, by decide, by decide, by decide, by decide,
      by decide, by decide⟩

/-- The own DONE as the last and not as the last, with and without the expiry mark; a peer's as the last and not. -/
theorem test_witness_DoneReportsAndCompletes :
    (∀ peer expired, peer = member 2 .ready ∨ peer = member 2 (.reported .fail) →
      let f := StationFrame.done 0 .pass 1 (some 5)
      let r := inRun errorSlot .measuring [member 1 .ready, peer]
      let s := sending { r with coord := { r.coord with expired := expired } } f;
      s.takesOwn 0 1 f (takenOwn s f) ∧ (takenOwn s f).coord.run = .measuring ∧ (takenOwn s f).coord.step = some 0
        ∧ stepNumber 0 ≤ (takenOwn s f).plan.length ∧ (takenOwn s f).coord.expired = expired
        ∧ (takenOwn s f).coord.roster = [member 1 .ready, peer])
    ∧ (∀ own, own = member 1 .ready ∨ own = member 1 (.reported .pass) →
      let s := inRun errorSlot .reported [own, member 2 .ready];
      s.takesPeer 0 2 (.done 0 .fail 1 none) (taken s) ∧ (taken s).coord.run = .reported
        ∧ (taken s).coord.step = some 0 ∧ memberAt 2 (taken s).coord.roster
        ∧ stepNumber 0 ≤ (taken s).plan.length ∧ (taken s).coord.roster = [own, member 2 .ready])
    ∧ (loaded.takesPeer 0 2 (.done 0 .fail 1 none) (taken loaded) ∧ (taken loaded).coord.run = .loaded) := by
  refine ⟨?_, ?_, ⟨takes_now _ rfl (by decide), by decide, by decide⟩, by decide⟩
  · rintro peer (_ | _) (rfl | rfl) <;>
      exact ⟨⟨rfl, by decide, by decide, by decide, by decide, by decide, rfl⟩, by decide, by decide, by decide,
        by decide, by decide⟩
  · rintro own (rfl | rfl) <;>
      exact ⟨⟨takes_now _ rfl (by decide), by decide, by decide⟩, by decide, by decide, by decide, by decide, by decide⟩

/-- The own entry struck; the peer's struck, with the source settled and not. -/
theorem test_witness_GatherLapseStrikesWaiting :
    (∀ own source, own = member 1 .waiting ∨ own = member 1 .ready →
        source = SourceView.settled 4 ∨ source = .unknown →
      let r := inRun errorSlot .gathering [own, member 2 .ready, member 3 .waiting]
      let s := { r with coord := { r.coord with source := source } };
      s.takesPeer 0 2 (.lapse 0 .gather) (taken s) ∧ (taken s).coord.run = .gathering
        ∧ (taken s).coord.step = some 0 ∧ memberAt 2 (taken s).coord.roster ∧ (taken s).slot 0 = some errorSlot
        ∧ (taken s).coord.source = source)
    ∧ (loaded.takesPeer 0 2 (.lapse 0 .gather) (taken loaded) ∧ (taken loaded).coord.run ≠ .gathering) := by
  refine ⟨?_, ⟨takes_now _ rfl (by decide), by decide, by decide⟩, by decide⟩
  rintro own source (rfl | rfl) (rfl | rfl) <;>
    exact ⟨⟨takes_now _ rfl (by decide), by decide, by decide⟩, by decide, by decide, by decide, by decide, by decide⟩

theorem test_witness_MeasureLapseCompletesStep :
    (∀ run, run = .measuring ∨ run = .reported ∨ run = .suspended →
      let s := inRun errorSlot run [member 1 .ready, member 2 .ready];
      s.takesPeer 0 2 (.lapse 0 .measure) (taken s) ∧ (taken s).coord.run = run ∧ (taken s).coord.step = some 0
        ∧ memberAt 2 (taken s).coord.roster ∧ stepNumber 0 ≤ (taken s).plan.length)
    ∧ (loaded.takesPeer 0 2 (.lapse 0 .measure) (taken loaded) ∧ (taken loaded).coord.run = .loaded) := by
  refine ⟨?_, ⟨takes_now _ rfl (by decide), by decide, by decide⟩, by decide⟩
  rintro run (rfl | rfl | rfl) <;>
    exact ⟨⟨takes_now _ rfl (by decide), by decide, by decide⟩, by decide, by decide, by decide, by decide⟩

/-! ## Witnesses: arithmetic, layouts and invariants -/

/-- R = 0; the mark; an error one beyond the limit and at it, of either sign; the greatest operands. -/
theorem test_witness_GateOutcomeFollowsArithmetic :
    gateOutcome { cref := 5, cmut := 1, gate := 1, lower := -9, upper := 9 } 1 0 false
        = { error := none, clamped := false, verdict := .noref }
      ∧ gateOutcome { cref := 5, cmut := 1, gate := 1, lower := -9, upper := 9 } 1 4_294_967_295 true
        = { error := none, clamped := false, verdict := .overrange }
      ∧ gateOutcome { cref := 2_000_000, cmut := 1, gate := 1, lower := -9, upper := 9 } 1 1_000_000 false
        = { error := some 999_999, clamped := true, verdict := .fail }
      ∧ gateOutcome { cref := 1_999_999, cmut := 1, gate := 1, lower := 0, upper := 999_999 } 1 1_000_000 false
        = { error := some 999_999, clamped := false, verdict := .pass }
      ∧ gateOutcome { cref := 1, cmut := 1, gate := 1, lower := 0, upper := 9 } 1 1_000_000 false
        = { error := some (-999_999), clamped := false, verdict := .fail } := by decide

theorem test_witness_ErrorRoundsHalfAwayFromZero :
    0 < 4_000 * 1_000
      ∧ 1_000_000 * ((2 * 2_000_001 : Int) - (4_000 * 1_000 : Int)).natAbs = 0 * (4_000 * 1_000) + 2_000_000
      ∧ 4_000 * 1_000 < 2 * 2_000_001 ∧ 2 * 1_999_999 < 4_000 * 1_000 ∧ 2 * 2_000_000 = 4_000 * 1_000 := by decide

theorem test_witness_SelectorMatchesMaskedBits :
    awake.takes 0 (taken awake) ∧ everyone.covers (taken awake).line.strap = true
      ∧ nobody.covers (taken awake).line.strap = false ∧ everyone.mask = 0 ∧ nobody.mask = 0x1F :=
  ⟨takes_now _ rfl (by decide), by decide, by decide, by decide, by decide⟩

theorem test_witness_StepRecordIsFormedFromFrame :
    (stepPayload 1 4).kind = 1 ∧ (stepPayload 2 4).kind = 2 ∧ (stepPayload 3 4).kind = 3
      ∧ (stepPayload 0 4).kind ≠ 1 ∧ (stepPayload 0 4).kind ≠ 2 ∧ (stepPayload 0 4).kind ≠ 3
      ∧ State.reset.plan.length = 0 ∧ loaded.plan.length = 1
      ∧ ({ loaded.plan with slots := Vector.replicate 16 (some errorSlot) } : PlanStore).length = 16 := by decide

theorem test_witness_WordChecksFollowTable : ([(0x200E, 0xDE)] : List Group) ≠ [] := by decide

theorem test_witness_FrameWordsReadBack :
    (Instr.done 0 30 15 .fail 15 (some (BitVec.ofInt 21 (-999_999)))).wellFormed = true
      ∧ (frameWords (Instr.done 0 30 15 .fail 15 (some (BitVec.ofInt 21 (-999_999))))).isSome = true := by decide

/-- The ends of the ranges of positions and slots; a record of each kind held. -/
theorem test_witness_ReplyFormsAreWellFormed :
    1 ≤ (1 : Position).toNat ∧ (30 : Position).toNat ≤ 30
      ∧ (1 : BitVec 5).toNat = stepNumber 0 ∧ (16 : BitVec 5).toNat = stepNumber 15
      ∧ (0 : BitVec 5).toNat = 0 ∧ 17 ≤ (17 : BitVec 5).toNat
      ∧ State.reset.closure.record = none ∧ State.reset.power.selfTest = none := by decide

/-- R167: slot 0 and slot 17 are queried as empty records; R170: EMPTY just after a MUSTER (log 33). -/
theorem test_reply_payloads :
    loaded.resultPayload 0 = [0x2000, 0, 0, 0, 0, 0, 0, 0, 0] ∧ loaded.resultPayload 17 = [0x2880, 0, 0, 0, 0, 0, 0, 0, 0]
      ∧ loaded.resultPayload 1 = [0x2090, 0, 0, 0, 0, 0, 0, 0, 0]
      ∧ ({ loaded with coord := { loaded.coord with stage := .awaiting } } : State).rosterPayload
        = [0x5000, 0, 0, 0, 0, 0, 0, 0, 0, 0, 0, 0]
      ∧ (enrolled .loaded).rosterPayload = [0x5410, 0, 0, 0, 0, 0, 0, 0, 0, 0, 0, 0] := by decide

/-- A state that meets every invariant, and its step. -/
theorem test_witness_StepKeepsInvariants :
    let s := { loaded with pending := [Instr.queryStatus 0 everyone] };
    s.safe ∧ ∃ t, step s = .next t :=
  ⟨⟨by decide, by decide, by decide, by decide, by decide, by decide, by decide, by decide, by decide, by decide,
    by decide, by decide, by decide⟩, _, rfl⟩

end Sys2Proof.Tests
end

section
/-! The stores of the station: what each of them must be for its invariant of Safety.lean, in the terms of the store alone,
and what the operations on one store keep. -/

namespace Sys2Proof.Machine

/-! ## The outbound queue (R85, R89) -/

theorem entryBounded_iff {α : Type} (e : Option (Entry α)) :
    entryBounded e = true ↔ (e.map (·.fails)).getD 0 < Config.maxFails := by
  cases e with
  | none => simp [entryBounded, holdsIfPresent, Config.maxFails]
  | some e => exact decide_eq_true_iff

theorem OutQueue.bounded_iff (q : OutQueue) : q.bounded = true ↔ ∀ k, q.fails k < Config.maxFails := by
  simp only [OutQueue.bounded, Bool.and_eq_true, entryBounded_iff]
  constructor
  · rintro ⟨⟨⟨⟨⟨⟨_, _⟩, _⟩, _⟩, _⟩, _⟩, _⟩ k
    cases k <;> assumption
  · exact fun h => ⟨⟨⟨⟨⟨⟨h .lapse, h .parked⟩, h .done⟩, h .ready⟩, h .hold⟩, h .present⟩, h .reply⟩

/-- No entry of the first queue has more failed attempts than that of the second. -/
def OutQueue.Below (q p : OutQueue) : Prop := ∀ k, q.fails k ≤ p.fails k

theorem OutQueue.Below.bounded {q p : OutQueue} (h : q.Below p) (hp : p.bounded = true) : q.bounded = true :=
  q.bounded_iff.2 fun k => Nat.lt_of_le_of_lt (h k) (p.bounded_iff.1 hp k)

/-- A change of one kind leaves the counts of the other kinds. -/
theorem OutQueue.fails_change_of_ne (q : OutQueue) (c : EntryChange) {j k : StationKind} (h : j ≠ k) :
    (q.change k c).fails j = q.fails j := by
  cases k <;> cases j <;> simp_all [OutQueue.change, OutQueue.fails]

/-- R89: only a failed attempt counts. -/
theorem EntryChange.fails_apply_le {α : Type} (c : EntryChange) (hc : c ≠ .fail) (e : Option (Entry α)) :
    ((e.bind c.apply).map (·.fails)).getD 0 ≤ (e.map (·.fails)).getD 0 := by
  cases e with
  | none => simp
  | some e =>
    cases c with
    | offer => simp [EntryChange.apply]
    | lose => simp [EntryChange.apply]
    | fail => exact absurd rfl hc
    | take => cases ho : e.offered <;> simp [EntryChange.apply, ho]

theorem OutQueue.change_below (q : OutQueue) (k : StationKind) (c : EntryChange) (hc : c ≠ .fail) :
    (q.change k c).Below q := by
  intro j
  by_cases hj : j = k
  · subst hj
    cases j <;> exact c.fails_apply_le hc _
  · exact Nat.le_of_eq (q.fails_change_of_ne c hj)

/-- R89, R91: after a failed attempt the counts stay in range where the one that rose does. -/
theorem OutQueue.bounded_change_fail (q : OutQueue) (k : StationKind) (h : q.bounded = true)
    (hk : (q.change k .fail).fails k < Config.maxFails) : (q.change k .fail).bounded = true := by
  refine (OutQueue.bounded_iff _).2 fun j => ?_
  by_cases hj : j = k
  · exact hj ▸ hk
  · rw [q.fails_change_of_ne .fail hj]
    exact q.bounded_iff.1 h j

/-! ## The line interface (R76, R85, R86, R91 to R93) -/

/-- What `State.lineSafe` says of the line interface. -/
structure LineInterface.Sound (l : LineInterface) : Prop where
  bounded : l.queue.bounded = true
  attempt : l.role = .none ↔ l.transmit = none
  normal : l.link ≠ .normal → l.role = .none
  strap : l.link = .strapFault ↔ isStationPosition l.strap = false
  quiet : l.link = .strapFault → l.queue = OutQueue.empty
  endSlot : l.endSlot.isSome = true → l.phase = .frame
  gapEnd : l.gapEnd.isSome = true ↔ l.phase = .gap

theorem State.lineSafe_iff (s : State) : s.lineSafe ↔ s.line.Sound :=
  ⟨fun ⟨a, b, c, d, e, f, g⟩ => ⟨a, b, c, d, e, f, g⟩, fun ⟨a, b, c, d, e, f, g⟩ => ⟨a, b, c, d, e, f, g⟩⟩

namespace LineInterface.Sound

variable {l : LineInterface}

theorem afterReset (straps : Position) : (LineInterface.afterReset straps (linkOfStraps straps)).Sound where
  bounded := rfl
  attempt := by simp [LineInterface.afterReset]
  normal := fun _ => rfl
  strap := by cases h : isStationPosition straps <;> simp [LineInterface.afterReset, linkOfStraps, h]
  quiet := fun _ => rfl
  endSlot := by simp [LineInterface.afterReset]
  gapEnd := by simp [LineInterface.afterReset]

/-- An attempt is the business of a NORMAL station. -/
theorem link_of_role (h : l.Sound) (hr : l.role ≠ .none) : l.link = .normal := by
  by_contra hl
  exact hr (h.normal hl)

theorem endSlot_none (h : l.Sound) (hp : l.phase ≠ .frame) : l.endSlot = none := by
  by_contra he
  exact hp (h.endSlot (Option.isSome_iff_ne_none.2 he))

theorem gapEnd_none (h : l.Sound) (hp : l.phase ≠ .gap) : l.gapEnd = none := by
  by_contra he
  exact hp (h.gapEnd.1 (Option.isSome_iff_ne_none.2 he))

theorem withQueue (h : l.Sound) (q : OutQueue) (hq : q.bounded = true)
    (he : l.link = .strapFault → q = OutQueue.empty) : { l with queue := q }.Sound :=
  { h with bounded := hq, quiet := he }

/-- An entry is changed by an attempt, which only a NORMAL station makes. -/
theorem changeEntry (h : l.Sound) (hl : l.link = .normal) (k : StationKind) (c : EntryChange) (hc : c ≠ .fail) :
    { l with queue := l.queue.change k c }.Sound :=
  h.withQueue _ ((l.queue.change_below k c hc).bounded h.bounded) fun hs => by simp [hl] at hs

theorem endAttempt (h : l.Sound) : l.endAttempt.Sound :=
  { h with attempt := ⟨fun _ => rfl, fun _ => rfl⟩, normal := fun _ => rfl }

/-- R76: another party's frame on an idle line, with its end slot to come. -/
theorem frameOnLine (h : l.Sound) (hp : l.phase = .idle) (slot : Option Nat) :
    { l with phase := .frame, endSlot := slot }.Sound :=
  { h with endSlot := fun _ => rfl, gapEnd := by simp [h.gapEnd_none (by simp [hp])] }

theorem withEndSlot (h : l.Sound) (hp : l.phase = .frame) (slot : Option Nat) : { l with endSlot := slot }.Sound :=
  { h with endSlot := fun _ => hp }

/-- R86: an attempt begun on an idle line. -/
theorem begun (h : l.Sound) (hl : l.link = .normal) (hp : l.phase = .idle) (f : StationFrame) (k : StationKind) :
    { l with transmit := some f, role := .contending, phase := .frame, queue := l.queue.change k .offer }.Sound :=
  { (h.changeEntry hl k .offer (by decide)).frameOnLine hp l.endSlot with
    attempt := by simp
    normal := fun hn => absurd hl hn }

/-- R87, R88: an attempt on the line with another role. -/
theorem running (h : l.Sound) (hl : l.link = .normal) (ht : l.transmit ≠ none) (role : AttemptRole)
    (hr : role ≠ .none) : { l with role := role }.Sound :=
  { h with
    attempt := ⟨fun h0 => absurd h0 hr, fun h0 => absurd h0 ht⟩
    normal := fun hn => absurd hl hn }

/-- R80: JOINING ends. -/
theorem joined (h : l.Sound) (hp : l.phase = .joining) : { l with phase := .idle }.Sound :=
  { h with
    endSlot := by simp [h.endSlot_none (by simp [hp])]
    gapEnd := by simp [h.gapEnd_none (by simp [hp])] }

/-- R76: the line is idle after a gap. -/
theorem idle (h : l.Sound) (hp : l.phase = .gap) : { l with phase := .idle, gapEnd := none }.Sound :=
  { h with endSlot := by simp [h.endSlot_none (by simp [hp])], gapEnd := by simp }

/-- R76: the gap after a frame. -/
theorem gap (h : l.Sound) (g : Nat) (r : ReceiveRecord) (d : Bool) :
    { l with phase := .gap, endSlot := none, gapEnd := some g, receive := r, abortDriven := d }.Sound :=
  { h with endSlot := by simp, gapEnd := by simp }

theorem passTime (h : l.Sound) (t : Nat) : (l.passTime t).Sound := by
  unfold LineInterface.passTime
  split
  · rename_i hp _
    split
    · exact { h with endSlot := by simp, gapEnd := by simp [h.gapEnd_none (by simp [hp])] }
    · exact h
  · rename_i hp _
    split
    · exact h.idle hp
    · exact h
  · exact h

/-- R91, R92: a link fault of a station with no attempt empties the queue. -/
theorem faulted (h : l.Sound) (hl : l.link ≠ .strapFault) (hr : l.role = .none) (link : LinkState)
    (hk : link ≠ .strapFault) : { l with link := link, queue := OutQueue.empty }.Sound :=
  { h with
    bounded := rfl
    normal := fun _ => hr
    strap := ⟨fun hs => absurd hs hk, fun hs => absurd (h.strap.2 hs) hl⟩
    quiet := fun _ => rfl }

theorem benchReset (h : l.Sound) : l.benchReset.Sound :=
  { h.endAttempt with
    bounded := rfl
    normal := fun _ => rfl
    strap := by
      rw [← show _ ↔ isStationPosition l.benchReset.strap = false from h.strap]
      cases hl : l.link <;> simp [LineInterface.benchReset, hl]
    quiet := fun _ => rfl }

end LineInterface.Sound

/-! ## The plan store (R20, R21, R25, R29, R31 to R35) -/

/-- What `State.planSafe` says of the plan store. -/
structure PlanStore.Sound (p : PlanStore) : Prop where
  first : 1 ≤ p.windowFirst
  window : p.windowFirst ≤ p.windowLast
  last : p.windowLast ≤ 16
  cursorFirst : p.windowFirst ≤ p.cursor
  cursorLast : p.cursor ≤ p.windowLast + 1
  fields : p.number = 0 ↔ p.fields = none
  session : p.sessionOpen = true → p.number ≠ 0
  noPlan : p.number = 0 → p.slots = Vector.replicate 16 none
  slots : (p.slots.toList.all fun slot => holdsIfPresent slot StepRecord.inRange) = true

theorem State.planSafe_iff (s : State) : s.planSafe ↔ s.plan.Sound :=
  ⟨fun ⟨a, b, c, d, e, f, g, h, i⟩ => ⟨a, b, c, d, e, f, g, h, i⟩,
    fun ⟨a, b, c, d, e, f, g, h, i⟩ => ⟨a, b, c, d, e, f, g, h, i⟩⟩

/-- R25: a clamped value lies within its bounds. -/
theorem le_clampNat {lo hi : Nat} (x : Nat) (h : lo ≤ hi) : lo ≤ clampNat lo hi x := by
  unfold clampNat
  omega

theorem clampNat_le (lo hi x : Nat) : clampNat lo hi x ≤ hi := by
  unfold clampNat
  omega

/-- R32, R47: a clamped limit or error lies within ±999,999 ppm. -/
theorem natAbs_clampLimit_le (x : Int) : (clampLimit x).natAbs ≤ Config.errorLimit := by
  unfold clampLimit Config.errorLimit
  omega

/-- R34: D lies within 100..3,600,000 ms. -/
theorem clampDuration_bounds (x : StepPayload) : 100 ≤ clampDuration x ∧ clampDuration x ≤ 3_600_000 :=
  ⟨le_clampNat _ (by decide), clampNat_le _ _ _⟩

/-- R31 to R34: the fields of the kind a STEP names are in range. -/
theorem stepBody_inRange (x : StepPayload) : (stepBody x).inRange = true := by
  have hd := clampDuration_bounds x
  have ht : x.threshold.toNat ≤ 255 := Nat.le_of_lt_succ x.threshold.isLt
  have hg : x.gate.toNat ≤ 65_535 := Nat.le_of_lt_succ x.gate.isLt
  have he := le_clampNat (lo := 1) (hi := 600) x.extension.toNat (by decide)
  have he' := clampNat_le 1 600 x.extension.toNat
  unfold stepBody
  split
  · simp [StepBody.inRange, errorFields, natAbs_clampLimit_le, he, he', hg]
  · simp [StepBody.inRange, creepFields, hd, ht]
  · simp [StepBody.inRange, startFields, hd, ht]
  · rfl

/-- R35: the base deadline lies within 1..3,601 s. -/
theorem baseDeadline_bounds (x : StepPayload) (body : StepBody) (hb : body.inRange = true) :
    1 ≤ baseDeadline x body ∧ baseDeadline x body ≤ 3_601 := by
  have hlo := le_clampNat (lo := 1) (hi := 3600) x.deadline.toNat (by decide)
  have hhi := clampNat_le 1 3600 x.deadline.toNat
  cases body with
  | error f => simp only [baseDeadline]; omega
  | creep f =>
    simp only [StepBody.inRange, Bool.and_eq_true, decide_eq_true_eq] at hb
    simp only [baseDeadline, deadlineFloor]
    omega
  | start f =>
    simp only [StepBody.inRange, Bool.and_eq_true, decide_eq_true_eq] at hb
    simp only [baseDeadline, deadlineFloor]
    omega
  | unknown => simp only [baseDeadline]; omega

theorem slotAllowance_le (x : StepPayload) (body : StepBody) : slotAllowance x body ≤ 7 := by
  cases body <;> simp [slotAllowance]

/-- R31 to R35: the record formed from a STEP is in range; a VALID one has a load point. -/
theorem formStepRecord_inRange (x : StepPayload) : (formStepRecord x).inRange = true := by
  have hl : x.loadPoint.toNat ≤ 255 := Nat.le_of_lt_succ x.loadPoint.isLt
  have hv : (!(formStepRecord x).valid || decide (1 ≤ x.loadPoint.toNat)) = true := by
    cases hb : x.loadPoint == 0
    · have h0 : x.loadPoint ≠ 0 := by simpa using hb
      have : 1 ≤ x.loadPoint.toNat := Nat.one_le_iff_ne_zero.2 fun h => h0 (BitVec.eq_of_toNat_eq h)
      simp [this]
    · simp only [formStepRecord, bne, hb, Bool.not_true, Bool.and_false, Bool.not_false, Bool.true_or]
  obtain ⟨hd, hd'⟩ := baseDeadline_bounds x (stepBody x) (stepBody_inRange x)
  have ha := slotAllowance_le x (stepBody x)
  have hb := stepBody_inRange x
  simp only [StepRecord.inRange, Bool.and_eq_true, decide_eq_true_eq]
  exact ⟨⟨⟨⟨⟨hb, hl⟩, hd⟩, hd'⟩, ha⟩, hv⟩

/-- A table with one slot set holds what its slots held. -/
theorem all_toList_set {α : Type} {n : Nat} (v : Vector α n) (k : Fin n) (x : α) (p : α → Bool)
    (hv : v.toList.all p = true) (hx : p x = true) : (v.set k x).toList.all p = true := by
  rw [Vector.toList_set, List.all_eq_true]
  intro y hy
  rcases List.mem_or_eq_of_mem_set hy with hy | rfl
  · exact List.all_eq_true.1 hv y hy
  · exact hx

/-- A slot of load session OPEN is filled (R30). -/
theorem PlanStore.Sound.fill {p : PlanStore} (h : p.Sound) (ho : p.sessionOpen = true) (hc : p.cursor ≤ p.windowLast)
    (k : StepIx) (r : StepRecord) (hr : r.inRange = true) :
    { p with slots := p.slots.set k (some r), cursor := p.cursor + 1 }.Sound :=
  { h with
    cursorFirst := Nat.le_succ_of_le h.cursorFirst
    cursorLast := Nat.succ_le_succ hc
    noPlan := fun h0 => absurd h0 (h.session ho)
    slots := all_toList_set p.slots k (some r) _ h.slots hr }

theorem noSlot_inRange :
    ((Vector.replicate 16 none : StepTable).toList.all fun slot => holdsIfPresent slot StepRecord.inRange) = true := by
  decide

theorem PlanStore.Sound.empty : PlanStore.empty.Sound where
  first := by decide
  window := by decide
  last := by decide
  cursorFirst := by decide
  cursorLast := by decide
  fields := by decide
  session := by decide
  noPlan := fun _ => rfl
  slots := noSlot_inRange

theorem PlanStore.Sound.emptied {p : PlanStore} (h : p.Sound) : { p with slots := Vector.replicate 16 none }.Sound :=
  { h with noPlan := fun _ => rfl, slots := noSlot_inRange }

/-- R25: the window that an applied PLAN sets. -/
theorem planWindow_bounds (x : PlanPayload) :
    1 ≤ planWindowFirst x ∧ planWindowFirst x ≤ planWindowLast x ∧ planWindowLast x ≤ 16 := by
  have h1 := le_clampNat (lo := 1) (hi := 16) x.windowFirst.toNat (by decide)
  have h2 := clampNat_le 1 16 x.windowFirst.toNat
  unfold planWindowLast planWindowFirst
  omega

/-- R24, R25: an applied PLAN. -/
theorem PlanStore.Sound.apply {p : PlanStore} (h : p.Sound) (x : PlanPayload) (hx : x.number ≠ 0) :
    (p.apply x).Sound := by
  obtain ⟨hfirst, hwindow, hlast⟩ := planWindow_bounds x
  exact
    { first := hfirst
      window := hwindow
      last := hlast
      cursorFirst := Nat.le_refl _
      cursorLast := Nat.le_succ_of_le hwindow
      fields := ⟨fun h0 => absurd h0 hx, fun h0 => by simp [PlanStore.apply] at h0⟩
      session := fun _ => hx
      noPlan := fun h0 => absurd h0 hx
      slots := h.slots }

/-- R21, R22, R28, R29: flags of the plan record, and a session that is shut. -/
theorem PlanStore.Sound.withFlags {p : PlanStore} (h : p.Sound) (overrun refused : Bool) (session : Bool)
    (hs : session = true → p.sessionOpen = true) :
    { p with overrun := overrun, refused := refused, sessionOpen := session }.Sound :=
  { h with session := fun ho => h.session (hs ho) }

/-! ## The roster (R95) -/

/-- Entering a position above the first entry keeps the rest of the roster ascending after it. -/
theorem ascending_cons_enterRoster (p : Position) (m : Member) (l : List Member) (hm : m.position < p)
    (h : ascending (m :: l) = true) : ascending (m :: enterRoster p l) = true := by
  induction l generalizing m with
  | nil => simp [enterRoster, ascending, Member.join, hm]
  | cons n rest ih =>
    simp only [ascending, Bool.and_eq_true, decide_eq_true_eq] at h
    obtain ⟨hmn, hrest⟩ := h
    unfold enterRoster
    split
    · rename_i hpn
      simp [ascending, Member.join, hm, hpn, hrest]
    · split
      · simp [ascending, hmn, hrest]
      · have hnp : n.position < p := by bv_omega
        simp [ascending, hmn, ih n hnp hrest]

/-- R95, R96: a position that enters keeps the roster in ascending order. -/
theorem ascending_enterRoster (p : Position) (l : List Member) (h : ascending l = true) :
    ascending (enterRoster p l) = true := by
  cases l with
  | nil => rfl
  | cons n rest =>
    unfold enterRoster
    split
    · rename_i hpn
      simp [ascending, Member.join, hpn, h]
    · split
      · exact h
      · exact ascending_cons_enterRoster p n rest (by bv_omega) h

theorem mem_enterRoster (p : Position) (l : List Member) (m : Member) (h : m ∈ enterRoster p l) :
    m.position = p ∨ m ∈ l := by
  induction l with
  | nil => simp_all [enterRoster, Member.join]
  | cons n rest ih =>
    unfold enterRoster at h
    split at h
    · rcases List.mem_cons.1 h with rfl | h
      · exact .inl rfl
      · exact .inr h
    · split at h
      · exact .inr h
      · rcases List.mem_cons.1 h with rfl | h
        · exact .inr List.mem_cons_self
        · exact (ih h).imp_right (List.mem_cons_of_mem _)

/-- What `State.rosterSafe` says of the roster. -/
structure RosterSound (l : List Member) : Prop where
  ascending : ascending l = true
  positions : (l.all fun m => isStationPosition m.position) = true

theorem State.rosterSafe_iff (s : State) : s.rosterSafe ↔ RosterSound s.coord.roster :=
  ⟨fun ⟨a, b⟩ => ⟨a, b⟩, fun ⟨a, b⟩ => ⟨a, b⟩⟩

theorem RosterSound.nil : RosterSound [] := ⟨rfl, rfl⟩

theorem RosterSound.enterRoster {l : List Member} (h : RosterSound l) (p : Position) (hp : isStationPosition p = true) :
    RosterSound (enterRoster p l) where
  ascending := ascending_enterRoster p l h.ascending
  positions := by
    refine List.all_eq_true.2 fun m hm => ?_
    rcases mem_enterRoster p l m hm with rfl | hm
    · exact hp
    · exact List.all_eq_true.1 h.positions m hm

theorem ascending_map (f : Member → Member) (hf : ∀ m, (f m).position = m.position) (l : List Member) :
    ascending (l.map f) = ascending l := by
  induction l with
  | nil => rfl
  | cons m rest ih =>
    cases rest with
    | nil => rfl
    | cons n rest =>
      rw [List.map_cons] at ih
      simp [ascending, hf, ih]

/-- A change of the entries that moves none of them. -/
theorem RosterSound.map {l : List Member} (h : RosterSound l) (f : Member → Member)
    (hf : ∀ m, (f m).position = m.position) : RosterSound (l.map f) where
  ascending := by rw [ascending_map f hf, h.ascending]
  positions := by simpa [List.all_map, Function.comp_def, hf] using h.positions

/-! ## The results (R47, R114, R120) -/

/-- An error that may be absent lies within ±999,999 ppm (R47). -/
def ErrorFits (e : Option Int) : Prop := holdsIfPresent e (fun e => decide (e.natAbs ≤ Config.errorLimit)) = true

theorem ErrorFits.none : ErrorFits none := rfl

theorem ResultRecord.inRange_iff (r : ResultRecord) :
    r.inRange = true ↔ r.attempt ≤ Config.maxAttempt ∧ ErrorFits r.values.error := by
  simp [ResultRecord.inRange, ErrorFits]

/-- What `State.resultSafe` says of the result table. -/
def ResultTable.Sound (t : ResultTable) : Prop := t.toList.all ResultRecord.inRange = true

theorem State.resultSafe_iff (s : State) : s.resultSafe ↔ ResultTable.Sound s.coord.results ∧ ErrorFits s.gate.error :=
  Iff.rfl

theorem ResultTable.Sound.blank : ResultTable.Sound ResultTable.blank := by
  unfold ResultTable.Sound
  decide

theorem ResultTable.Sound.get {t : ResultTable} (h : ResultTable.Sound t) (k : StepIx) : t[k].inRange = true :=
  List.all_eq_true.1 h _ (by simp)

theorem ResultTable.Sound.set {t : ResultTable} (h : ResultTable.Sound t) (k : StepIx) (r : ResultRecord)
    (hr : r.inRange = true) : ResultTable.Sound (t.set k r) :=
  all_toList_set t k r _ h hr

/-- A record with its attempt kept, or none, and no error. -/
theorem ResultRecord.inRange_of_noError {r x : ResultRecord} (hr : r.inRange = true) (ha : x.attempt = r.attempt)
    (he : x.values.error = none) : x.inRange = true := by
  rw [ResultRecord.inRange_iff] at hr ⊢
  exact ⟨ha ▸ hr.1, he ▸ ErrorFits.none⟩

theorem ResultTable.Sound.clearFrom {t : ResultTable} (h : ResultTable.Sound t) (first : StepIx) (length : Nat) :
    ResultTable.Sound (clearResultsFrom first length t) := by
  refine List.all_eq_true.2 fun x hx => ?_
  simp only [clearResultsFrom, Vector.toList_mapIdx, List.mem_mapIdx] at hx
  obtain ⟨i, hi, rfl⟩ := hx
  have hr : (t.toList[i]).inRange = true := List.all_eq_true.1 h _ (List.getElem_mem hi)
  split
  · exact ResultRecord.inRange_of_noError hr rfl rfl
  · exact hr

/-- R47, R48: the error that a closing gate forms. -/
theorem gateOutcome_error (g : GateSettings) (n r : Nat) (overrange : Bool) :
    ErrorFits (gateOutcome g n r overrange).error := by
  unfold gateOutcome
  split
  · exact ErrorFits.none
  · split
    · exact ErrorFits.none
    · exact decide_eq_true (natAbs_clampLimit_le _)

/-! ## The reference counter (R11, R12) -/

/-- What `State.counterSafe` says of the reference counter. -/
def RefCounter.Sound (c : RefCounter) : Prop :=
  c.value ≤ Config.counterMax ∧ (c.overrange = true ↔ c.value = Config.counterMax)

theorem State.counterSafe_iff (s : State) : s.counterSafe ↔ s.front.counter.Sound := Iff.rfl

theorem RefCounter.Sound.zero (counting : Bool) :
    ({ counting := counting, value := 0, overrange := false } : RefCounter).Sound := by
  simp [RefCounter.Sound, Config.counterMax]

/-- R12: an edge saturates the counter with the mark set exactly there. -/
theorem RefCounter.Sound.edge {c : RefCounter} (h : c.Sound) : c.edge.Sound := by
  obtain ⟨hv, ho⟩ := h
  unfold RefCounter.edge
  split
  · rename_i hc
    simp only [Bool.and_eq_true, decide_eq_true_eq] at hc
    have hno : c.overrange = false := by
      by_contra hne
      have := ho.1 (by simpa using hne)
      omega
    exact ⟨hc.2, by simp [hno]⟩
  · exact ⟨hv, ho⟩

end Sys2Proof.Machine
end

section
/-! What every operation keeps (O59, O4): one lemma for each operation, in the order of the model's files, each following
the operation's own composition. -/

namespace Sys2Proof.Machine

/-- From the first state to the second the time base does not go back, and the invariants of the line interface, the plan
store, the roster, the results and the reference counter are kept, each by itself. -/
structure State.LeadsTo (s t : State) : Prop where
  now : s.now ≤ t.now
  lineSafe : s.lineSafe → t.lineSafe
  planSafe : s.planSafe → t.planSafe
  rosterSafe : s.rosterSafe → t.rosterSafe
  resultSafe : s.resultSafe → t.resultSafe
  counterSafe : s.counterSafe → t.counterSafe

namespace State.LeadsTo

variable {s t : State}

theorem refl (s : State) : s.LeadsTo s := ⟨Nat.le_refl _, id, id, id, id, id⟩

/-! ## Updates of one block -/

/-- A further update of the state, by what becomes of each store. -/
theorem update {u : State} (h : s.LeadsTo t) (now : u.now = t.now) (line : t.line.Sound → u.line.Sound)
    (plan : t.plan.Sound → u.plan.Sound) (roster : RosterSound t.coord.roster → RosterSound u.coord.roster)
    (results : ResultTable.Sound t.coord.results → ResultTable.Sound u.coord.results)
    (error : ErrorFits t.gate.error → ErrorFits u.gate.error)
    (counter : t.front.counter.Sound → u.front.counter.Sound) : s.LeadsTo u where
  now := now ▸ h.now
  lineSafe hs := u.lineSafe_iff.2 (line (t.lineSafe_iff.1 (h.lineSafe hs)))
  planSafe hs := u.planSafe_iff.2 (plan (t.planSafe_iff.1 (h.planSafe hs)))
  rosterSafe hs := u.rosterSafe_iff.2 (roster (t.rosterSafe_iff.1 (h.rosterSafe hs)))
  resultSafe hs := ⟨results (h.resultSafe hs).1, error (h.resultSafe hs).2⟩
  counterSafe hs := counter (h.counterSafe hs)

theorem mapFront (h : s.LeadsTo t) (f : FrontEnd → FrontEnd) (now : (f t.front).timeBase = t.front.timeBase)
    (counter : t.front.counter.Sound → (f t.front).counter.Sound) : s.LeadsTo (t.mapFront f) :=
  h.update now id id id id id counter

theorem mapPlan (h : s.LeadsTo t) (f : PlanStore → PlanStore) (hf : t.plan.Sound → (f t.plan).Sound) :
    s.LeadsTo (t.mapPlan f) :=
  h.update rfl id hf id id id id

theorem mapGate (h : s.LeadsTo t) (f : ErrorGate → ErrorGate) (hf : ErrorFits t.gate.error → ErrorFits (f t.gate).error) :
    s.LeadsTo (t.mapGate f) :=
  h.update rfl id id id id hf id

theorem mapTimed (h : s.LeadsTo t) (f : TimedUnit → TimedUnit) : s.LeadsTo (t.mapTimed f) :=
  h.update rfl id id id id id id

theorem mapLine (h : s.LeadsTo t) (f : LineInterface → LineInterface) (hf : t.line.Sound → (f t.line).Sound) :
    s.LeadsTo (t.mapLine f) :=
  h.update rfl hf id id id id id

/-- The coordinator beside its results. -/
theorem mapCoordRoster (h : s.LeadsTo t) (f : Coordinator → Coordinator)
    (roster : RosterSound t.coord.roster → RosterSound (f t.coord).roster)
    (results : (f t.coord).results = t.coord.results) : s.LeadsTo (t.mapCoord f) :=
  h.update rfl id id roster (fun hr => results ▸ hr) id id

/-- The coordinator beside its roster and its results. -/
theorem mapCoord (h : s.LeadsTo t) (f : Coordinator → Coordinator) (roster : (f t.coord).roster = t.coord.roster)
    (results : (f t.coord).results = t.coord.results) : s.LeadsTo (t.mapCoord f) :=
  h.mapCoordRoster f (fun hr => roster ▸ hr) results

theorem emptyRoster (h : s.LeadsTo t) (f : Coordinator → Coordinator) (roster : (f t.coord).roster = [])
    (results : (f t.coord).results = t.coord.results) : s.LeadsTo (t.mapCoord f) :=
  h.mapCoordRoster f (fun _ => roster ▸ RosterSound.nil) results

/-- The entries of the roster change, and none of them moves. -/
theorem mapRoster (h : s.LeadsTo t) (f : Member → Member) (hf : ∀ m, (f m).position = m.position) :
    s.LeadsTo (t.mapRoster fun l => l.map f) :=
  h.mapCoordRoster _ (fun hr => hr.map f hf) rfl

theorem mapClosure (h : s.LeadsTo t) (f : ClosureUnit → ClosureUnit) : s.LeadsTo (t.mapClosure f) :=
  h.update rfl id id id id id id

theorem mapPower (h : s.LeadsTo t) (f : PowerUnit → PowerUnit) : s.LeadsTo (t.mapPower f) :=
  h.update rfl id id id id id id

theorem setResult (h : s.LeadsTo t) (k : StepIx) (r : ResultRecord)
    (hr : ResultTable.Sound t.coord.results → r.inRange = true) : s.LeadsTo (t.setResult k r) :=
  h.update rfl id id id (fun ht => ht.set k r (hr ht)) id id

/-- A result record is replaced by one with the same attempt and no error. -/
theorem setResultNoError (h : s.LeadsTo t) (k : StepIx) (r : ResultRecord) (ha : r.attempt = (t.result k).attempt)
    (he : r.values.error = none) : s.LeadsTo (t.setResult k r) :=
  h.setResult k r fun ht => ResultRecord.inRange_of_noError (ht.get k) ha he

/-! ## The queue -/

theorem mapQueue (h : s.LeadsTo t) (f : OutQueue → OutQueue) (hf : ∀ q : OutQueue, (f q).Below q)
    (he : f OutQueue.empty = OutQueue.empty) : s.LeadsTo (t.mapQueue f) :=
  h.mapLine _ fun hl => hl.withQueue _ ((hf t.line.queue).bounded hl.bounded) fun hs => by rw [hl.quiet hs, he]

/-- R93: a station in STRAP-FAULT queues nothing. -/
theorem request (h : s.LeadsTo t) (f : OutQueue → OutQueue) (hf : ∀ q : OutQueue, (f q).Below q) :
    s.LeadsTo (t.request f) := by
  unfold State.request
  split
  · exact h
  · rename_i hs
    exact h.mapLine _ fun hl => hl.withQueue _ ((hf t.line.queue).bounded hl.bounded) fun hs' => absurd hs' hs

theorem queueLapse (h : s.LeadsTo t) (k : StepIx) (p : LapsePhase) : s.LeadsTo (t.queueLapse k p) :=
  h.request _ fun q k => by
    cases k <;> simp [OutQueue.fails, Entry.fresh]
theorem queueParked (h : s.LeadsTo t) (r : ParkedReason) : s.LeadsTo (t.queueParked r) :=
  h.request _ fun q k => by
    cases k <;> simp [OutQueue.fails, Entry.fresh]
theorem queueReady (h : s.LeadsTo t) (k : StepIx) : s.LeadsTo (t.queueReady k) :=
  h.request _ fun q k => by
    cases k <;> simp [OutQueue.fails, Entry.fresh]
theorem queueHold (h : s.LeadsTo t) (k : StepIx) : s.LeadsTo (t.queueHold k) :=
  h.request _ fun q k => by
    cases k <;> simp [OutQueue.fails, Entry.fresh]
theorem queuePresent (h : s.LeadsTo t) (n : BitVec 16) : s.LeadsTo (t.queuePresent n) :=
  h.request _ fun q k => by
    cases k <;> simp [OutQueue.fails, Entry.fresh]
theorem queueReply (h : s.LeadsTo t) (kind : RecordKind) (slot : BitVec 5) : s.LeadsTo (t.queueReply kind slot) :=
  h.request _ fun q k => by
    cases k <;> simp [OutQueue.fails, Entry.fresh]
theorem queueDone (h : s.LeadsTo t) (k : StepIx) : s.LeadsTo (t.queueDone k) :=
  h.request _ fun q k => by
    cases k <;> simp [OutQueue.fails, Entry.fresh]

theorem withdrawReady (h : s.LeadsTo t) : s.LeadsTo t.withdrawReady :=
  h.mapQueue _ (fun q k => by cases k <;> simp [OutQueue.fails]) rfl
theorem withdrawHold (h : s.LeadsTo t) : s.LeadsTo t.withdrawHold :=
  h.mapQueue _ (fun q k => by cases k <;> simp [OutQueue.fails]) rfl
theorem withdrawDone (h : s.LeadsTo t) : s.LeadsTo t.withdrawDone :=
  h.mapQueue _ (fun q k => by cases k <;> simp [OutQueue.fails]) rfl
theorem withdrawPresent (h : s.LeadsTo t) : s.LeadsTo t.withdrawPresent :=
  h.mapQueue _ (fun q k => by cases k <;> simp [OutQueue.fails]) rfl
theorem withdrawStepFrames (h : s.LeadsTo t) : s.LeadsTo t.withdrawStepFrames :=
  h.mapQueue _ (fun q k => by cases k <;> simp [OutQueue.fails]) rfl

theorem withdrawLapse (h : s.LeadsTo t) (k : StepIx) (p : LapsePhase) : s.LeadsTo (t.withdrawLapse k p) := by
  unfold State.withdrawLapse
  split
  · exact h.mapQueue _ (fun q k => by cases k <;> simp [OutQueue.fails]) rfl
  · exact h

/-! ## The shared operations of Ops.lean -/

theorem stopCounter (h : s.LeadsTo t) : s.LeadsTo t.stopCounter := h.mapFront _ rfl id

theorem startReferenceWait (h : s.LeadsTo t) : s.LeadsTo t.startReferenceWait := (h.mapCoord _ rfl rfl).mapFront _ rfl id

theorem stopReferenceWait (h : s.LeadsTo t) : s.LeadsTo t.stopReferenceWait := (h.mapCoord _ rfl rfl).mapFront _ rfl id

/-- R120: a result written, with an error in range. -/
theorem writeResult (h : s.LeadsTo t) (k : StepIx) (v : Verdict) (x : ResultValues) (hx : ErrorFits x.error) :
    s.LeadsTo (t.writeResult k v x) := by
  refine (h.setResult k _ fun ht => ?_).queueDone k
  exact (ResultRecord.inRange_iff _).2 ⟨((ResultRecord.inRange_iff _).1 (ht.get k)).1, hx⟩

theorem clearResult (h : s.LeadsTo t) (k : StepIx) : s.LeadsTo (t.clearResult k) := h.setResultNoError k _ rfl rfl

theorem toRest (h : s.LeadsTo t) : s.LeadsTo t.toRest := h.mapCoord _ rfl rfl

theorem toLoaded (h : s.LeadsTo t) : s.LeadsTo t.toLoaded := h.mapCoord _ rfl rfl

theorem toHome (h : s.LeadsTo t) : s.LeadsTo t.toHome := by
  unfold State.toHome
  split
  · exact h.mapCoord _ rfl rfl
  · exact h.toLoaded
  · exact h.toLoaded

theorem endEnrollment (h : s.LeadsTo t) : s.LeadsTo t.endEnrollment := (h.emptyRoster _ rfl rfl).withdrawPresent

theorem endMuster (h : s.LeadsTo t) : s.LeadsTo t.endMuster := by
  unfold State.endMuster
  split
  · exact h
  · exact h.endEnrollment

theorem gateToIdle (h : s.LeadsTo t) : s.LeadsTo t.gateToIdle := h.stopCounter.mapGate _ fun _ => ErrorFits.none

theorem timedToIdle (h : s.LeadsTo t) : s.LeadsTo t.timedToIdle := h.mapTimed _

theorem unitsToIdle (h : s.LeadsTo t) : s.LeadsTo t.unitsToIdle := h.gateToIdle.timedToIdle

theorem cutPress (h : s.LeadsTo t) : s.LeadsTo t.cutPress := h.mapClosure _

theorem releaseCaln (h : s.LeadsTo t) : s.LeadsTo t.releaseCaln := h.mapClosure _

theorem assertCaln (h : s.LeadsTo t) : s.LeadsTo t.assertCaln := h.mapClosure _

theorem enterWaking (h : s.LeadsTo t) : s.LeadsTo t.enterWaking := (h.mapPower _).mapFront _ rfl id

theorem enterParked (h : s.LeadsTo t) : s.LeadsTo t.enterParked := (h.mapPower _).releaseCaln

theorem requeueDone (h : s.LeadsTo t) : s.LeadsTo t.requeueDone := by
  unfold State.requeueDone
  split
  · split
    · exact h.queueDone _
    · exact h
  · exact h

/-- R92: DUPLICATE is entered from NORMAL or LINK-FAULT. -/
theorem enterDuplicate (h : s.LeadsTo t) (hl : t.line.link ≠ .strapFault) : s.LeadsTo t.enterDuplicate :=
  (h.mapLine _ fun hs => hs.endAttempt.faulted hl rfl .duplicate (by decide)).requeueDone

/-! ## The roster -/

/-- R105 to R107, R119: struck entries stay in their places. -/
theorem strike (h : s.LeadsTo t) (p : Member → Bool) (reason : StrikeReason) :
    s.LeadsTo (t.mapRoster (strikeWhere p reason)) :=
  h.mapRoster _ fun m => by split <;> rfl

theorem setPhase (h : s.LeadsTo t) (p : Position) (ph : Phase) : s.LeadsTo (t.mapRoster (setPhaseAt p ph)) :=
  h.mapRoster _ fun m => by split <;> rfl

theorem reportRest (h : s.LeadsTo t) (v : Verdict) : s.LeadsTo (t.mapRoster (reportRest v)) :=
  h.mapRoster _ fun m => by split <;> rfl

/-! ## The coordinator (chapter 7) -/

theorem settleLapse (h : s.LeadsTo t) (d : Option Nat) : s.LeadsTo (t.settleLapse d) := by
  unfold State.settleLapse
  split
  · split
    · exact h
    · exact h.withdrawLapse _ _
  · exact h

theorem changeDeadline (h : s.LeadsTo t) (d : Option Nat) : s.LeadsTo (t.changeDeadline d) :=
  (((h.settleLapse d).mapCoord _ rfl rfl).mapGate _ id).withdrawHold

theorem enterGathering (h : s.LeadsTo t) (k : StepIx) : s.LeadsTo (t.enterGathering k) := by
  refine State.LeadsTo.queueReady ?_ k
  refine h.mapCoordRoster _ (fun hr => hr.map _ fun m => ?_) rfl
  split <;> rfl

theorem armUnits (h : s.LeadsTo t) (k : StepIx) : s.LeadsTo (t.armUnits k) := by
  unfold State.armUnits
  split
  · split
    · split
      · exact h.mapGate _ fun _ => ErrorFits.none
      · exact h.mapTimed _
      · exact h.mapTimed _
      · exact h
    · exact h
  · exact h

theorem trigger (h : s.LeadsTo t) (k : StepIx) : s.LeadsTo (t.trigger k) :=
  (((h.withdrawLapse k .gather).withdrawReady.mapCoord _ rfl rfl).armUnits k).startReferenceWait

theorem triggerTest (h : s.LeadsTo t) : s.LeadsTo t.triggerTest := by
  unfold State.triggerTest
  split
  · split
    · exact h.trigger _
    · exact h
  · exact h

theorem endRun (h : s.LeadsTo t) : s.LeadsTo t.endRun := (h.stopReferenceWait.mapCoord _ rfl rfl).withdrawStepFrames

theorem advance (h : s.LeadsTo t) (k : StepIx) : s.LeadsTo (t.advance k) := by
  unfold State.advance
  split
  · split
    · exact h.enterGathering _
    · exact h.endRun
  · exact h.endRun

theorem completeStep (h : s.LeadsTo t) (k : StepIx) : s.LeadsTo (t.completeStep k) :=
  (h.stopReferenceWait.mapCoord _ rfl rfl).withdrawStepFrames.unitsToIdle.advance k

theorem completionTest (h : s.LeadsTo t) : s.LeadsTo t.completionTest := by
  unfold State.completionTest
  split
  · split
    · exact h.completeStep _
    · exact h
  · exact h

theorem testAfterStrike (h : s.LeadsTo t) : s.LeadsTo t.testAfterStrike := by
  unfold State.testAfterStrike
  split
  · exact h.triggerTest
  · exact h.completionTest

theorem startGate (h : s.LeadsTo t) : s.LeadsTo t.startGate := by
  unfold State.startGate
  split
  · exact (h.mapGate _ id).mapFront _ rfl id
  · exact h

theorem startTimed (h : s.LeadsTo t) (t0 : Nat) : s.LeadsTo (t.startTimed t0) := by
  unfold State.startTimed
  split
  · exact h.mapTimed _
  · exact h

theorem reportInvalid (h : s.LeadsTo t) (k : StepIx) (r : StepRecord) : s.LeadsTo (t.reportInvalid k r) := by
  unfold State.reportInvalid
  split
  · exact h
  · exact h.writeResult k _ _ ErrorFits.none

/-- R114: the attempt count saturates at 15. -/
theorem startMeasurement (h : s.LeadsTo t) (k : StepIx) (r : StepRecord) (t0 : Nat) (quiet : Bool) :
    s.LeadsTo (t.startMeasurement k r t0 quiet) := by
  refine ((h.setResult k _ fun ht => ?_).startGate.startTimed t0).reportInvalid k r
  exact (ResultRecord.inRange_iff _).2 ⟨Nat.min_le_left _ _, ((ResultRecord.inRange_iff _).1 (ht.get k)).2⟩

theorem startStep (h : s.LeadsTo t) (k : StepIx) (r : StepRecord) (t0 : Nat) (quiet : Bool) :
    s.LeadsTo (t.startStep k r t0 quiet) := by
  unfold State.startStep
  split
  · exact (h.changeDeadline _).startMeasurement k r t0 quiet
  · exact h.changeDeadline _
  · exact h

theorem commonStart (h : s.LeadsTo t) (t0 : Nat) (quiet : Bool) : s.LeadsTo (t.commonStart t0 quiet) := by
  unfold State.commonStart
  split
  · split
    · exact h.stopReferenceWait.startStep _ _ t0 quiet
    · exact h.stopReferenceWait
  · exact h.stopReferenceWait

/-- R53, R58, R69, R73: the record of a step ended early is in range where what is made of a written one is. -/
theorem endedRecord_inRange (t : State) (ht : ResultTable.Sound t.coord.results) (k : StepIx)
    (written : ResultRecord → ResultRecord) (hw : (written (t.result k)).inRange = true) :
    (t.endedRecord k written).inRange = true := by
  have hr : (t.result k).inRange = true := ht.get k
  have hn : (t.result k).incomplete.inRange = true := ResultRecord.inRange_of_noError hr rfl rfl
  have hp : ∀ x : ResultValues, x.error = none → ((t.result k).partlyDone x).inRange = true := fun x hx =>
    ResultRecord.inRange_of_noError hr rfl hx
  unfold State.endedRecord
  split
  · exact hn
  · exact hp _ rfl
  · exact hp _ rfl
  · exact hw
  · split
    · exact hn
    · exact hp _ rfl
    · exact hw
    · exact hw
    · split
      · exact hn
      · exact hw

theorem stopRun (h : s.LeadsTo t) : s.LeadsTo t.stopRun :=
  (h.stopReferenceWait.mapCoord _ rfl rfl).withdrawStepFrames.unitsToIdle

theorem haltRun (h : s.LeadsTo t) (k : StepIx) : s.LeadsTo (t.haltRun k) :=
  ((h.clearResult k).stopRun.emptyRoster _ rfl rfl).toLoaded

theorem clampResult (h : s.LeadsTo t) (k : StepIx) : s.LeadsTo (t.clampResult k) := by
  unfold State.clampResult
  split
  · exact h.setResult k _ fun ht => endedRecord_inRange t ht k id (ht.get k)
  · exact h.setResult k _ fun ht => endedRecord_inRange t ht k id (ht.get k)
  · exact h

theorem clampEndsRun (h : s.LeadsTo t) (k : StepIx) : s.LeadsTo (t.clampEndsRun k) :=
  ((h.clampResult k).stopRun.mapCoord _ rfl rfl).toLoaded

theorem suspendStep (h : s.LeadsTo t) (k : StepIx) : s.LeadsTo (t.suspendStep k) := by
  have hg : s.LeadsTo (t.stopCounter.mapGate ErrorGate.voided) := h.stopCounter.mapGate _ fun he => by
    unfold ErrorGate.voided
    split
    · exact he
    · exact ErrorFits.none
  exact (((hg.mapTimed _).stopReferenceWait.clearResult k).withdrawDone.withdrawHold).mapCoord _ rfl rfl

theorem suspendReported (h : s.LeadsTo t) : s.LeadsTo t.suspendReported := (h.mapTimed _).mapCoord _ rfl rfl

theorem voidResult (h : s.LeadsTo t) (k : StepIx) : s.LeadsTo (t.voidResult k) := by
  unfold State.voidResult
  split
  · exact (h.setResultNoError k (t.result k).voided rfl rfl).withdrawDone
  · exact h

theorem voidStep (h : s.LeadsTo t) (k : StepIx) : s.LeadsTo (t.voidStep k) :=
  ((h.voidResult k).reportRest .void).completeStep k

theorem restartStep (h : s.LeadsTo t) : s.LeadsTo t.restartStep :=
  ((h.mapCoord _ rfl rfl).changeDeadline none).startReferenceWait

/-! ## The consumers of pulses and edges (chapters 1, 3, 4, 9) -/

theorem openGate (h : s.LeadsTo t) : s.LeadsTo t.openGate :=
  (h.mapGate _ id).mapFront _ rfl (fun _ => RefCounter.Sound.zero true)

theorem closeGate (h : s.LeadsTo t) (k : StepIx) (g : GateSettings) (n : Nat) (period : Option Nat) :
    s.LeadsTo (t.closeGate k g n period) :=
  ((h.stopCounter.mapGate _ fun _ => gateOutcome_error _ _ _ _).writeResult k _ _
    (gateOutcome_error _ _ _ _)).withdrawHold

theorem predictHold (h : s.LeadsTo t) (k : StepIx) (g : GateSettings) (n stamp : Nat) (period : Option Nat) :
    s.LeadsTo (t.predictHold k g n stamp period) := by
  unfold State.predictHold
  split
  · split
    · exact (h.queueHold k).mapGate _ id
    · exact h
  · exact h

theorem countGate (h : s.LeadsTo t) (k : StepIx) (g : GateSettings) (n stamp : Nat) (period : Option Nat) :
    s.LeadsTo (t.countGate k g n stamp period) := by
  unfold State.countGate
  split
  · exact h.closeGate k g _ period
  · exact (h.mapGate _ id).predictHold k g _ stamp period

theorem gatePulse (h : s.LeadsTo t) (stamp : Nat) (period : Option Nat) : s.LeadsTo (t.gatePulse stamp period) := by
  unfold State.gatePulse
  split
  · exact h.openGate
  · exact h.countGate _ _ _ stamp period
  · exact h

theorem formTimed (h : s.LeadsTo t) (k : StepIx) (count : Nat) (elapsed : Option Nat) (v : Verdict) :
    s.LeadsTo (t.formTimed k count elapsed v) :=
  (h.mapTimed _).writeResult k v _ ErrorFits.none

theorem countTimed (h : s.LeadsTo t) (k : StepIx) (x : TimedSettings) (count stamp : Nat) :
    s.LeadsTo (t.countTimed k x count stamp) := by
  unfold State.countTimed
  split
  · exact h.formTimed k count _ _
  · exact h.mapTimed _

/-- R67: a trailing pulse changes the count of the result alone. -/
theorem trailTimed (h : s.LeadsTo t) (k : StepIx) (count : Nat) : s.LeadsTo (t.trailTimed k count) :=
  (h.mapTimed _).setResult k _ fun ht => ht.get k

theorem timedPulse (h : s.LeadsTo t) (stamp : Nat) : s.LeadsTo (t.timedPulse stamp) := by
  unfold State.timedPulse
  split
  · exact h.countTimed _ _ _ stamp
  · exact h.trailTimed _ _
  · exact h

theorem reachDuration (h : s.LeadsTo t) : s.LeadsTo t.reachDuration := by
  unfold State.reachDuration
  split
  · exact (h.mapTimed _).writeResult _ _ _ ErrorFits.none
  · exact h.mapTimed _
  · exact h.mapTimed _
  · exact h

theorem selfTestPulse (h : s.LeadsTo t) (period : Option Nat) : s.LeadsTo (t.selfTestPulse period) := by
  unfold State.selfTestPulse
  split
  · exact h.mapPower _
  · exact h

theorem routePulse (h : s.LeadsTo t) (stamp : Nat) (period : Option Nat) : s.LeadsTo (t.routePulse stamp period) := by
  unfold State.routePulse
  split
  · exact h.selfTestPulse period
  · exact h.gatePulse stamp period
  · exact h.timedPulse stamp
  · exact h

theorem acceptPulse (h : s.LeadsTo t) : s.LeadsTo t.acceptPulse := by
  unfold State.acceptPulse
  split
  · exact (h.mapFront _ rfl id).routePulse _ _
  · exact h

theorem handRestarted (h : s.LeadsTo t) (before : FrontEnd) : s.LeadsTo (t.handRestarted before) := by
  unfold State.handRestarted
  split
  · split
    · exact h.selfTestPulse none
    · exact h
  · exact h

theorem rearmFilter (h : s.LeadsTo t) : s.LeadsTo t.rearmFilter := by
  unfold State.rearmFilter
  split
  · exact h.mapFront _ rfl id
  · exact h

theorem referenceEdge (h : s.LeadsTo t) : s.LeadsTo t.referenceEdge := by
  have hc : s.LeadsTo t.countEdge := h.mapFront _ rfl (RefCounter.Sound.edge)
  unfold State.referenceEdge
  split
  · exact hc.commonStart _ _
  · exact hc

/-! ## Local events and the passing of time -/

theorem expireWait (h : s.LeadsTo t) : s.LeadsTo t.expireWait := by
  unfold State.expireWait
  split
  · exact h.commonStart _ true
  · exact h

theorem expireGather (h : s.LeadsTo t) : s.LeadsTo t.expireGather := by
  unfold State.expireGather
  split
  · exact (h.queueLapse _ _).mapCoord _ rfl rfl
  · exact h.mapCoord _ rfl rfl

theorem expireDeadline (h : s.LeadsTo t) : s.LeadsTo t.expireDeadline := by
  unfold State.expireDeadline
  split
  · exact (h.queueLapse _ _).mapCoord _ rfl rfl
  · exact h.mapCoord _ rfl rfl

theorem expireWindow (h : s.LeadsTo t) : s.LeadsTo t.expireWindow := by
  unfold State.expireWindow
  split
  · exact h.toHome.endEnrollment
  · exact h.endEnrollment

theorem endDwell (h : s.LeadsTo t) : s.LeadsTo t.endDwell := h.mapClosure _

theorem endParkedDwell (h : s.LeadsTo t) : s.LeadsTo t.endParkedDwell := by
  unfold State.endParkedDwell
  split
  · exact h.enterWaking
  · exact h.mapPower _

end State.LeadsTo

/-- R5, R15, R16: the end of a burst leaves the time base and the reference counter. -/
theorem FrontEnd.unburst_keeps (f : FrontEnd) : f.unburst.timeBase = f.timeBase ∧ f.unburst.counter = f.counter := by
  unfold FrontEnd.unburst
  split <;> exact ⟨rfl, rfl⟩

/-- R2, R5: a new plan setting leaves the time base and the reference counter. -/
theorem FrontEnd.withSetting_keeps (f : FrontEnd) (x : FilterSetting) :
    (f.withSetting x).timeBase = f.timeBase ∧ (f.withSetting x).counter = f.counter := by
  unfold FrontEnd.withSetting
  split <;> exact ⟨rfl, rfl⟩

/-- R3, R4: a change of MTP leaves the time base and the reference counter. -/
theorem FrontEnd.becomeActive_keeps (f : FrontEnd) :
    f.becomeActive.timeBase = f.timeBase ∧ f.becomeActive.counter = f.counter := by
  unfold FrontEnd.becomeActive
  split <;> exact ⟨rfl, rfl⟩

theorem FrontEnd.becomeInactive_keeps (f : FrontEnd) :
    f.becomeInactive.timeBase = f.timeBase ∧ f.becomeInactive.counter = f.counter := by
  unfold FrontEnd.becomeInactive
  split <;> exact ⟨rfl, rfl⟩

namespace State.LeadsTo

variable {s t : State}

/-- A change of the front end that leaves the time base and the reference counter. -/
theorem mapFrontKeeping (h : s.LeadsTo t) (f : FrontEnd → FrontEnd)
    (hf : (f t.front).timeBase = t.front.timeBase ∧ (f t.front).counter = t.front.counter) : s.LeadsTo (t.mapFront f) :=
  h.mapFront f hf.1 fun hc => hf.2 ▸ hc

theorem loopOff (h : s.LeadsTo t) : s.LeadsTo (t.mapFront FrontEnd.loopOff) :=
  h.mapFrontKeeping _ (t.front.loopOff_eq ▸ t.front.unburst_keeps)

theorem startBurst (h : s.LeadsTo t) : s.LeadsTo t.startBurst := (h.mapFront _ rfl id).handRestarted _

theorem endBurst (h : s.LeadsTo t) : s.LeadsTo t.endBurst := h.loopOff.handRestarted _

theorem settleMuster (h : s.LeadsTo t) : s.LeadsTo t.settleMuster := by
  unfold State.settleMuster
  split
  · split
    · exact (h.queuePresent _).mapCoord _ rfl rfl
    · exact h.endEnrollment
  · exact h

theorem dropMuster (h : s.LeadsTo t) : s.LeadsTo t.dropMuster := by
  unfold State.dropMuster
  split
  · exact h.endEnrollment
  · exact h

theorem endWaking (h : s.LeadsTo t) : s.LeadsTo t.endWaking := by
  unfold State.endWaking State.judgeSelfTest
  dsimp only
  split
  · exact ((h.mapPower _).mapPower _).assertCaln.settleMuster
  · exact (((h.mapPower _).mapPower _).releaseCaln.queueParked _).dropMuster

theorem fire (h : s.LeadsTo t) (e : LocalEvent) : s.LeadsTo (t.fire e) := by
  cases e with
  | pulseAccepted => exact h.acceptPulse
  | filterRearm => exact h.rearmFilter
  | referenceWaitExpiry => exact h.expireWait
  | gatherTimerExpiry => exact h.expireGather
  | stepDeadlineExpiry => exact h.expireDeadline
  | musterWindowExpiry => exact h.expireWindow
  | durationEnd => exact h.reachDuration
  | pressDwellEnd => exact h.endDwell
  | parkedDwellEnd => exact h.endParkedDwell
  | loopBurstStart => exact h.startBurst
  | loopBurstEnd => exact h.endBurst
  | wakingEnd => exact h.endWaking

/-- R1, R76: the time base moves on and the line phase with it. -/
theorem setTime (h : s.LeadsTo t) (x : Nat) : s.LeadsTo (t.setTime x) where
  now := by
    rw [State.setTime_now]
    exact Nat.le_trans h.now (Nat.le_max_left _ _)
  lineSafe hs := (State.lineSafe_iff _).2 (((State.lineSafe_iff _).1 (h.lineSafe hs)).passTime _)
  planSafe := h.planSafe
  rosterSafe := h.rosterSafe
  resultSafe := h.resultSafe
  counterSafe := h.counterSafe

theorem takeDue (h : s.LeadsTo t) : s.LeadsTo t.takeDue := by
  unfold State.takeDue
  split
  · exact h
  · exact h.fire _
  · exact (h.update (u := { t with freeDraws := t.freeDraws + 1 }) rfl id id id id id id).fire _

theorem passTo (h : s.LeadsTo t) (fuel x : Nat) : s.LeadsTo (State.passTo fuel x t) := by
  induction fuel generalizing t with
  | zero => exact h
  | succ fuel ih =>
    unfold State.passTo
    split
    · exact h.setTime x
    · exact ih (h.setTime _).takeDue

theorem elapse (h : s.LeadsTo t) (dt : Nat) : s.LeadsTo (t.elapse dt) := by
  unfold State.elapse
  split
  · exact h
  · exact h.passTo _ _

theorem atDue (h : s.LeadsTo t) (e : LocalEvent) : s.LeadsTo (t.atDue e) := by
  unfold State.atDue
  split
  · exact h
  · dsimp only
    split
    · exact (h.passTo _ _).fire e
    · exact h.passTo _ _

/-! ## The line interface (chapter 5) -/


/-- R86: an attempt begins at a NORMAL station with the line idle to it. -/
theorem beginAttempt (h : s.LeadsTo t) (f : StationFrame) (hl : t.line.link = .normal) (hp : t.line.phase = .idle) :
    s.LeadsTo (t.beginAttempt f) :=
  h.mapLine _ fun hs => hs.begun hl hp f _

/-- R87, R88: what the read-back makes of an attempt. -/
theorem readBack (h : s.LeadsTo t) (f : StationFrame) (outcome : AttemptOutcome) (hl : t.line.link = .normal)
    (ht : t.line.transmit ≠ none) : s.LeadsTo (t.readBack f outcome) := by
  unfold State.readBack
  split
  · exact h.mapLine _ fun hs => hs.running hl ht .sending (by decide)
  · exact h.mapLine _ fun hs => hs.running hl ht .aborting (by decide)
  · exact h.mapLine _ fun hs => hs.endAttempt.changeEntry hl _ .lose (by decide)

theorem startAttempt (h : s.LeadsTo t) (arbRead : BitVec 9) (restMatches : Bool) (groups : Nat) :
    s.LeadsTo (t.startAttempt arbRead restMatches groups) := by
  unfold State.startAttempt
  split
  · rename_i hm
    simp only [LineInterface.mayStart, Bool.and_eq_true, beq_iff_eq] at hm
    obtain ⟨⟨hl, hp⟩, _⟩ := hm
    split
    · rename_i f _
      dsimp only
      refine ((h.beginAttempt f hl hp).readBack f _ hl (by simp [State.beginAttempt])).mapLine _ fun hs => hs.withEndSlot ?_ _
      cases arbitrate (f.arbitration t.line.strap) arbRead restMatches <;> rfl
    · exact h
  · exact h

theorem hearStart (h : s.LeadsTo t) (groups : Nat) : s.LeadsTo (t.hearStart groups) := by
  unfold State.hearStart
  split
  · rename_i hp
    exact h.mapLine _ fun hs => hs.frameOnLine hp _
  · exact h.mapLine _ fun hs => { hs with }
  · exact h
  · exact h
  · exact h

theorem takeStart (h : s.LeadsTo t) (start : StartBit) (groups : Nat) : s.LeadsTo (t.takeStart start groups) := by
  cases start with
  | own arbRead restMatches => exact h.startAttempt arbRead restMatches groups
  | peer => exact h.hearStart groups

theorem frameEnds (h : s.LeadsTo t) : s.LeadsTo t.frameEnds := h.mapLine _ fun hs => hs.gap _ _ _

/-- R89, R91: an attempt fails; the sixteenth failure puts the station in LINK-FAULT. -/
theorem failAttempt (h : s.LeadsTo t) (f : StationFrame) (hr : t.line.role ≠ .none) : s.LeadsTo (t.failAttempt f) := by
  have hn : t.line.Sound → t.line.link ≠ .strapFault := fun hs => by simp [hs.link_of_role hr]
  unfold State.failAttempt
  dsimp only
  split
  · refine State.LeadsTo.requeueDone ?_
    exact h.update rfl (fun hs => hs.endAttempt.faulted (hn hs) rfl .linkFault (by decide)) id id id id id
  · rename_i hk
    exact h.mapLine _ fun hs => hs.endAttempt.withQueue _
      (OutQueue.bounded_change_fail _ _ hs.bounded (Nat.lt_of_not_le hk)) fun hl => absurd hl (hn hs)

theorem failOwnAttempt (h : s.LeadsTo t) : s.LeadsTo t.failOwnAttempt := by
  unfold State.failOwnAttempt
  split
  · rename_i hr _
    exact h.failAttempt _ (by simp [hr])
  · rename_i hr _
    exact h.failAttempt _ (by simp [hr])
  · exact h

theorem abortFrame (h : s.LeadsTo t) (groups : List Group) : s.LeadsTo (t.abortFrame groups) := by
  unfold State.abortFrame
  split
  · exact h.mapLine _ fun hs => { hs with }
  · refine State.LeadsTo.failOwnAttempt ?_
    exact h.update rfl (fun hs => hs.gap _ _ _) id id id id id

/-- A frame passes: it acts, or the line phase alone follows it (R79, R80, R93). -/
theorem passFrame (h : s.LeadsTo t) (groups : List Group) (f : State → State)
    (hf : ∀ u, s.LeadsTo u → s.LeadsTo (f u)) : s.LeadsTo (t.passFrame groups f) := by
  unfold State.passFrame
  split
  · exact h.mapLine _ fun hs => { hs with }
  · split
    · exact h.frameEnds
    · exact hf _ h.frameEnds

theorem takeConsole (h : s.LeadsTo t) (words : List Word) (sel : Selector) (f : State → State)
    (hf : ∀ u, s.LeadsTo u → s.LeadsTo (f u)) : s.LeadsTo (t.takeConsole words sel f) :=
  h.passFrame _ (fun u => if sel.covers u.line.strap then f u else u) fun u hu => by
    split
    · exact hf u hu
    · exact hu

theorem takeSelective (h : s.LeadsTo t) (words : List Word) (sel : Selector) (f g : State → State)
    (hf : ∀ u, s.LeadsTo u → s.LeadsTo (f u)) (hg : ∀ u, s.LeadsTo u → s.LeadsTo (g u)) :
    s.LeadsTo (t.takeSelective words sel f g) :=
  h.passFrame _ (fun u => if sel.covers u.line.strap then f u else g u) fun u hu => by
    split
    · exact hf u hu
    · exact hg u hu

theorem foreignOwn (h : s.LeadsTo t) : s.LeadsTo t.foreignOwn := by
  unfold State.foreignOwn
  split
  · rename_i hl
    exact h.enterDuplicate (by rcases hl with hl | hl <;> simp [hl])
  · exact h

/-- R89: the own frame leaves the queue of the NORMAL station that sends it. -/
theorem ownTaken (h : s.LeadsTo t) (f : StationFrame) (hr : t.line.role ≠ .none) : s.LeadsTo (t.ownTaken f) :=
  h.mapLine _ fun hs => hs.endAttempt.changeEntry (hs.link_of_role hr) _ .take (by decide)

theorem deliver (h : s.LeadsTo t) (source : Position) (f : StationFrame) (act : State → State)
    (hact : isStationPosition source = true → ∀ u, s.LeadsTo u → s.LeadsTo (act u)) :
    s.LeadsTo (t.deliver source f act) := by
  have hp : stationFrameFits f source = true → isStationPosition source = true := fun hf => (Bool.and_eq_true_iff.1 hf).1
  unfold State.deliver
  split
  · split
    · rename_i hs
      obtain ⟨hf, hsend⟩ := Bool.and_eq_true_iff.1 hs
      have hr : t.line.role ≠ .none := by
        intro hr
        simp [LineInterface.sends, hr] at hsend
      exact hact (hp hf) _ (h.ownTaken f hr)
    · exact h.foreignOwn
  · split
    · rename_i hf
      exact hact (hp hf) t h
    · exact h

theorem takeStation (h : s.LeadsTo t) (source : Position) (f : StationFrame) (act : State → State)
    (hact : isStationPosition source = true → ∀ u, s.LeadsTo u → s.LeadsTo (act u)) :
    s.LeadsTo (t.takeStation source f act) :=
  h.passFrame _ _ fun _ hu => hu.deliver source f act hact

theorem takeMalformed (h : s.LeadsTo t) (groups : List Group) : s.LeadsTo (t.takeMalformed groups) := by
  unfold State.takeMalformed
  split
  · unfold State.missFrame
    split
    · exact h
    · exact h.passFrame groups id fun _ hu => hu
  · split
    · exact h
    · refine h.passFrame groups _ fun u hu => ?_
      split
      · exact hu.foreignOwn
      · exact hu

theorem endJoining (h : s.LeadsTo t) : s.LeadsTo t.endJoining := by
  unfold State.endJoining
  split
  · rename_i hj
    simp only [LineInterface.joined, Bool.and_eq_true, beq_iff_eq] at hj
    exact h.mapLine _ fun hs => hs.joined hj.1
  · exact h

/-! ## Closure, plan and power (chapters 2, 8, 9) -/

theorem energisePress (h : s.LeadsTo t) : s.LeadsTo t.energisePress := by
  unfold State.energisePress
  split
  · exact h.mapClosure _
  · exact h

theorem keepRecord (h : s.LeadsTo t) (r : ClosureRecord) : s.LeadsTo (t.keepRecord r) := h.mapClosure _

theorem enterClosed (h : s.LeadsTo t) (v : RunVerdict) : s.LeadsTo (t.enterClosed v) := h.mapCoord _ rfl rfl

theorem takeClose (h : s.LeadsTo t) : s.LeadsTo t.takeClose := by
  unfold State.takeClose
  split
  · unfold State.closeRun
    split
    · exact ((h.releaseCaln.energisePress.keepRecord _).enterClosed .pass).endMuster
    · exact ((h.keepRecord _).enterClosed .fail).endMuster
  · exact h.mapClosure _
  · exact h

/-- The result table is emptied, with no entry of the roster moved. -/
theorem blankResults (h : s.LeadsTo t) (f : Coordinator → Coordinator) (roster : (f t.coord).roster = t.coord.roster)
    (results : (f t.coord).results = ResultTable.blank) : s.LeadsTo (t.mapCoord f) :=
  h.update rfl id id (fun hr => roster ▸ hr) (fun _ => results ▸ ResultTable.Sound.blank) id id

theorem takeRelease (h : s.LeadsTo t) : s.LeadsTo t.takeRelease := by
  unfold State.takeRelease
  split
  · exact ((h.cutPress.mapClosure _).blankResults _ rfl rfl).toRest
  · exact h

theorem emptyIfNew (h : s.LeadsTo t) (x : PlanPayload) : s.LeadsTo (t.emptyIfNew x) := by
  unfold State.emptyIfNew
  split
  · exact h
  · exact (h.mapPlan _ fun hp => hp.emptied).blankResults _ rfl rfl

theorem applyPlan (h : s.LeadsTo t) (x : PlanPayload) (hx : x.number ≠ 0) : s.LeadsTo (t.applyPlan x) := by
  have hp := (h.emptyIfNew x).mapPlan (fun p => p.apply x) fun hp => hp.apply x hx
  refine ((hp.mapFrontKeeping _ ?_).handRestarted _).endMuster
  rw [FrontEnd.setPlanSetting_eq]
  exact FrontEnd.withSetting_keeps _ _

theorem takePlan (h : s.LeadsTo t) (x : PlanPayload) : s.LeadsTo (t.takePlan x) := by
  unfold State.takePlan
  split
  · rename_i hx
    simp only [planContentGood, Bool.and_eq_true, bne_iff_ne] at hx
    obtain ⟨_, ⟨hnumber, _⟩, _⟩ := hx
    exact h.applyPlan x hnumber
  · exact h.mapPlan _ fun hp => hp.withFlags _ _ _ (by simp)

theorem followLength (h : s.LeadsTo t) : s.LeadsTo t.followLength := by
  unfold State.followLength
  split
  · exact h.toRest
  · exact h.toRest
  · exact h

/-- R30: a slot is filled in an OPEN session, with the cursor in the window. -/
theorem fillSlot (h : s.LeadsTo t) (k : StepIx) (r : StepRecord) (ho : t.plan.sessionOpen = true)
    (hc : t.plan.cursor ≤ t.plan.windowLast) (hr : r.inRange = true) : s.LeadsTo (t.fillSlot k r) :=
  (((h.mapPlan _ fun hp => hp.fill ho hc k r hr).setResult k _ fun _ => by decide).followLength).endMuster

theorem takeStep (h : s.LeadsTo t) (x : StepPayload) : s.LeadsTo (t.takeStep x) := by
  unfold State.takeStep
  split
  · rename_i ho
    unfold State.admitStep
    split
    · rename_i hc
      split
      · exact h.fillSlot _ _ (Bool.and_eq_true_iff.1 ho).2 hc.2 (formStepRecord_inRange x)
      · exact h
    · exact h.mapPlan _ fun hp => hp.withFlags _ _ _ id
  · exact h.mapPlan _ fun hp => hp.withFlags _ _ _ (by simp)

theorem setClamp (h : s.LeadsTo t) (c : ClampLevel) : s.LeadsTo (t.setClamp c) := h.mapPower _

theorem clampCloses (h : s.LeadsTo t) : s.LeadsTo t.clampCloses := by
  unfold State.clampCloses
  split
  · exact h.setClamp .closed
  · unfold State.actOnClosing
    split
    · unfold State.closeParked
      split
      · exact (h.setClamp .closed).enterWaking
      · exact (h.setClamp .closed).mapPower _
    · exact h.setClamp .closed

theorem loadedAtOpening (h : s.LeadsTo t) : s.LeadsTo t.loadedAtOpening := (h.mapCoord _ rfl rfl).toLoaded

theorem runEndedByClamp (h : s.LeadsTo t) : s.LeadsTo t.runEndedByClamp := by
  unfold State.runEndedByClamp
  split
  · exact h.clampEndsRun _
  · exact h

theorem coordinatorAtOpening (h : s.LeadsTo t) : s.LeadsTo t.coordinatorAtOpening := by
  have he : s.LeadsTo t.enrollmentEndedByClamp := h.endEnrollment.loadedAtOpening
  unfold State.coordinatorAtOpening
  split
  · exact h.runEndedByClamp
  · exact h.runEndedByClamp
  · exact h.runEndedByClamp
  · exact h.runEndedByClamp
  · exact he
  · exact h.endMuster.loadedAtOpening
  · exact h
  · split
    · exact h
    · exact he
  · split
    · exact h
    · exact he

theorem actOnOpening (h : s.LeadsTo t) : s.LeadsTo t.actOnOpening := by
  unfold State.actOnOpening
  split
  · exact h.cutPress.mapPower _
  · exact (h.loopOff.cutPress.enterParked.queueParked .clampOpen).dropMuster
  · exact h.coordinatorAtOpening.cutPress.enterParked.queueParked .clampOpen
  · exact h.cutPress.enterParked

theorem clampOpens (h : s.LeadsTo t) : s.LeadsTo t.clampOpens := by
  unfold State.clampOpens
  split
  · exact h.setClamp .opened
  · exact (h.setClamp .opened).actOnOpening

/-! ## The run frames and the bench resets -/

theorem enroll (h : s.LeadsTo t) (plan : BitVec 16) : s.LeadsTo (t.enroll plan) := by
  have hl : s.LeadsTo t.leaveEnrolled := by
    unfold State.leaveEnrolled
    split
    · exact h.toHome
    · exact h
  exact (hl.emptyRoster _ rfl rfl).queuePresent plan

theorem takeMuster (h : s.LeadsTo t) (plan : BitVec 16) (count : BitVec 5) : s.LeadsTo (t.takeMuster plan count) := by
  unfold State.takeMuster
  split
  · split
    · split
      · exact h.enroll plan
      · exact h
    · split
      · exact h.emptyRoster _ rfl rfl
      · exact h
    · exact h
    · exact h
  · exact h

/-- R101: the results of a run are cleared, with their attempts kept. -/
theorem beginRun (h : s.LeadsTo t) (k : StepIx) : s.LeadsTo (t.beginRun k) := by
  refine State.LeadsTo.enterGathering ?_ k
  exact h.update rfl id id id (fun hr => hr.clearFrom k t.plan.length) id id

theorem takeRun (h : s.LeadsTo t) (plan : BitVec 16) (first : BitVec 5) : s.LeadsTo (t.takeRun plan first) := by
  unfold State.takeRun
  split
  · unfold State.runEnrolled
    split
    · split
      · exact h.beginRun _
      · exact h
    · exact h
  · exact h.endMuster

theorem haltHere (h : s.LeadsTo t) : s.LeadsTo t.haltHere := by
  unfold State.haltHere
  split
  · exact h.haltRun _
  · exact h.haltRun _
  · exact h.haltRun _
  · exact h.haltRun _
  · exact h.toHome.endEnrollment
  · exact h.endMuster

theorem strikeSelected (h : s.LeadsTo t) (sel : Selector) (reason : StrikeReason) :
    s.LeadsTo (t.strikeSelected sel reason) := by
  unfold State.strikeSelected
  split
  · exact (h.strike _ reason).testAfterStrike
  · exact h

theorem resetRunHere (h : s.LeadsTo t) : s.LeadsTo t.resetRunHere :=
  h.update rfl (fun hs => hs.benchReset) id (fun _ => RosterSound.nil) (fun _ => ResultTable.Sound.blank)
    (fun _ => ErrorFits.none) fun _ => RefCounter.Sound.zero false

theorem resetAllHere (h : s.LeadsTo t) : s.LeadsTo t.resetAllHere := by
  have hf := t.front.benchReset.withSetting_keeps FilterSetting.default
  rw [← FrontEnd.setPlanSetting_eq] at hf
  refine State.LeadsTo.handRestarted ?_ _
  exact h.update hf.1 (fun hs => hs.benchReset) (fun _ => PlanStore.Sound.empty) (fun _ => RosterSound.nil)
    (fun _ => ResultTable.Sound.blank) (fun _ => ErrorFits.none) fun _ => hf.2 ▸ RefCounter.Sound.zero false

/-! ## The source and the station frames -/

theorem takeSettled (h : s.LeadsTo t) (loadPoint : BitVec 8) : s.LeadsTo (t.takeSettled loadPoint) := by
  have hv : s.LeadsTo (t.setSource (.settled loadPoint.toNat)) := h.mapCoord _ rfl rfl
  unfold State.takeSettled
  dsimp only
  split
  · exact hv.restartStep
  · exact hv.triggerTest

theorem disturbStep (h : s.LeadsTo t) (k : StepIx) : s.LeadsTo (t.disturbStep k) := by
  unfold State.disturbStep
  split
  · exact h
  · split
    · unfold State.suspend
      split
      · exact h.suspendStep k
      · exact h.suspendReported
      · exact h
    · unfold State.exhaust
      split
      · exact h.voidStep k
      · exact h.voidStep k
      · exact h

theorem takeDisturbed (h : s.LeadsTo t) : s.LeadsTo t.takeDisturbed := by
  have hv : s.LeadsTo (t.setSource .disturbed) := h.mapCoord _ rfl rfl
  unfold State.takeDisturbed
  dsimp only
  split
  · split
    · exact hv.disturbStep _
    · exact hv
  · exact hv

theorem takePresent (h : s.LeadsTo t) (source : Position) (plan : BitVec 16) (hp : isStationPosition source = true) :
    s.LeadsTo (t.takePresent source plan) := by
  have he : s.LeadsTo (t.mapRoster (enterRoster source)) := h.mapCoordRoster _ (fun hr => hr.enterRoster source hp) rfl
  unfold State.takePresent
  split
  · unfold State.becomeEnrolled
    split
    · exact he.mapCoord _ rfl rfl
    · exact he
  · exact h

theorem takeReady (h : s.LeadsTo t) (source : Position) (k : StepIx) : s.LeadsTo (t.takeReady source k) := by
  unfold State.takeReady
  split
  · exact (h.setPhase source .ready).triggerTest
  · exact h

theorem takeLapseGather (h : s.LeadsTo t) (source : Position) (k : StepIx) :
    s.LeadsTo (t.takeLapseGather source k) := by
  have hs : s.LeadsTo (t.strikeWaiting k) := ((h.strike _ .gatherLapse).mapCoord _ rfl rfl).withdrawLapse k .gather
  unfold State.takeLapseGather
  split
  · unfold State.afterGatherLapse
    split
    · exact hs.triggerTest
    · exact hs.endRun
  · exact h

theorem countHold (h : s.LeadsTo t) (r : StepRecord) : s.LeadsTo (t.countHold r) := by
  unfold State.countHold
  dsimp only
  split
  · exact (h.mapCoord _ rfl rfl).changeDeadline _
  · exact h.mapCoord _ rfl rfl

theorem takeHold (h : s.LeadsTo t) (source : Position) (k : StepIx) : s.LeadsTo (t.takeHold source k) := by
  unfold State.takeHold
  split
  · unfold State.weighHold
    split
    · split
      · exact h.countHold _
      · exact h
    · exact h
  · exact h

theorem lapseAfresh (h : s.LeadsTo t) (k : StepIx) : s.LeadsTo (t.lapseAfresh k) := by
  unfold State.lapseAfresh
  split
  · exact h.queueLapse k .measure
  · exact h

theorem takeDone (h : s.LeadsTo t) (source : Position) (k : StepIx) (v : Verdict) :
    s.LeadsTo (t.takeDone source k v) := by
  unfold State.takeDone
  split
  · unfold State.takeOwnDone
    split
    · exact ((((h.setPhase _ _).mapCoord _ rfl rfl).withdrawLapse k .measure).lapseAfresh k).completionTest
    · exact h
  · unfold State.takePeerDone
    split
    · exact (h.setPhase source _).completionTest
    · exact h

/-- R124: a result written already keeps its values, marked LATE. -/
theorem lapseResult (h : s.LeadsTo t) (k : StepIx) : s.LeadsTo (t.lapseResult k) := by
  unfold State.lapseResult
  split
  · exact h
  · exact (h.setResult k _ fun ht => endedRecord_inRange t ht k ResultRecord.lateDone (ht.get k)).withdrawDone

theorem takeLapseMeasure (h : s.LeadsTo t) (source : Position) (k : StepIx) :
    s.LeadsTo (t.takeLapseMeasure source k) := by
  unfold State.takeLapseMeasure
  split
  · exact ((h.lapseResult k).reportRest .incomplete).completeStep k
  · exact h

theorem takeParked (h : s.LeadsTo t) (source : Position) (reason : ParkedReason) :
    s.LeadsTo (t.takeParked source reason) := by
  unfold State.takeParked
  split
  · exact h
  · split
    · exact (h.strike _ _).testAfterStrike
    · exact h

/-! ## Commands -/

theorem holdReset (h : s.LeadsTo t) : s.LeadsTo t.holdReset :=
  ((h.mapLine _ fun hs => hs.endAttempt).mapClosure _).loopOff.update rfl id id id id id id

/-- A command that carries `after`. -/
theorem of_atEvent (after : Nat) (f : State → State) (h : s.atEvent after f = .next t)
    (hf : ∀ u, s.LeadsTo u → s.LeadsTo (f u)) : s.LeadsTo t := by
  obtain rfl := Host.Outcome.next.inj h
  split
  · exact refl s
  · exact hf _ ((refl s).elapse after)

/-- A local event as a command. -/
theorem of_atLocal (e : LocalEvent) (h : s.atLocal e = .next t) : s.LeadsTo t := by
  obtain rfl := Host.Outcome.next.inj h
  split
  · exact refl s
  · exact (refl s).atDue e

end State.LeadsTo

/-- Every command but the two resets keeps the stores, and the time base does not go back. -/
theorem exec_leadsTo (c : Instr) (s t : State) (h : exec c s = .next t)
    (hp : ∀ straps clamp mtp, c ≠ .powerOn straps clamp mtp) (hr : ∀ straps clamp mtp, c ≠ .pinReset straps clamp mtp) :
    s.LeadsTo t := by
  unfold exec at h
  cases c with
  | powerOn straps clamp mtp => exact absurd rfl (hp straps clamp mtp)
  | pinReset straps clamp mtp => exact absurd rfl (hr straps clamp mtp)
  | joiningEnd after => exact .of_atEvent after _ h fun _ hu => hu.endJoining
  | mtpActiveChange after =>
    exact .of_atEvent after _ h fun u hu => hu.mapFrontKeeping _ u.front.becomeActive_keeps
  | mtpInactiveChange after =>
    exact .of_atEvent after _ h fun u hu => hu.mapFrontKeeping _ u.front.becomeInactive_keeps
  | pulseAccepted => exact .of_atLocal _ h
  | filterRearm => exact .of_atLocal _ h
  | referenceEdge after => exact .of_atEvent after _ h fun _ hu => hu.referenceEdge
  | referenceWaitExpiry => exact .of_atLocal _ h
  | gatherTimerExpiry => exact .of_atLocal _ h
  | stepDeadlineExpiry => exact .of_atLocal _ h
  | musterWindowExpiry => exact .of_atLocal _ h
  | durationEnd => exact .of_atLocal _ h
  | pressDwellEnd => exact .of_atLocal _ h
  | parkedDwellEnd => exact .of_atLocal _ h
  | loopBurstStart => exact .of_atLocal _ h
  | loopBurstEnd => exact .of_atLocal _ h
  | wakingEnd => exact .of_atLocal _ h
  | clampClosing after => exact .of_atEvent after _ h fun _ hu => hu.clampCloses
  | clampOpening after => exact .of_atEvent after _ h fun _ hu => hu.clampOpens
  | attemptStart after start groups => exact .of_atEvent after _ h fun _ hu => hu.takeStart start groups
  | frameAborted after groups => exact .of_atEvent after _ h fun _ hu => hu.abortFrame groups
  | malformedFrame after groups => exact .of_atEvent after _ h fun _ hu => hu.takeMalformed groups
  | plan after sel x => exact .of_atEvent after _ h fun _ hu => hu.takeConsole _ sel _ fun _ hv => hv.takePlan x
  | step after sel x => exact .of_atEvent after _ h fun _ hu => hu.takeConsole _ sel _ fun _ hv => hv.takeStep x
  | muster after sel plan count =>
    exact .of_atEvent after _ h fun _ hu => hu.takeConsole _ sel _ fun _ hv => hv.takeMuster plan count
  | run after sel plan first =>
    exact .of_atEvent after _ h fun _ hu => hu.takeConsole _ sel _ fun _ hv => hv.takeRun plan first
  | halt after sel =>
    exact .of_atEvent after _ h fun _ hu =>
      hu.takeSelective _ sel _ _ (fun _ hv => hv.haltHere) fun _ hv => hv.strikeSelected sel .halt
  | resetRun after sel =>
    exact .of_atEvent after _ h fun _ hu =>
      hu.takeSelective _ sel _ _ (fun _ hv => hv.resetRunHere) fun _ hv => hv.strikeSelected sel .reset
  | resetAll after sel =>
    exact .of_atEvent after _ h fun _ hu =>
      hu.takeSelective _ sel _ _ (fun _ hv => hv.resetAllHere) fun _ hv => hv.strikeSelected sel .reset
  | close after sel => exact .of_atEvent after _ h fun _ hu => hu.takeConsole _ sel _ fun _ hv => hv.takeClose
  | release after sel => exact .of_atEvent after _ h fun _ hu => hu.takeConsole _ sel _ fun _ hv => hv.takeRelease
  | queryStatus after sel =>
    exact .of_atEvent after _ h fun _ hu => hu.takeConsole _ sel _ fun _ hv => hv.queueReply .status 0
  | queryResult after sel slot =>
    exact .of_atEvent after _ h fun _ hu => hu.takeConsole _ sel _ fun _ hv => hv.queueReply .result slot
  | queryClosure after sel =>
    exact .of_atEvent after _ h fun _ hu => hu.takeConsole _ sel _ fun _ hv => hv.queueReply .closure 0
  | querySelftest after sel =>
    exact .of_atEvent after _ h fun _ hu => hu.takeConsole _ sel _ fun _ hv => hv.queueReply .selftest 0
  | queryRoster after sel =>
    exact .of_atEvent after _ h fun _ hu => hu.takeConsole _ sel _ fun _ hv => hv.queueReply .roster 0
  | settled after loadPoint =>
    exact .of_atEvent after _ h fun _ hu => hu.passFrame _ _ fun _ hv => hv.takeSettled loadPoint
  | disturbed after => exact .of_atEvent after _ h fun _ hu => hu.passFrame _ _ fun _ hv => hv.takeDisturbed
  | present after source plan =>
    exact .of_atEvent after _ h fun _ hu => hu.takeStation source _ _ fun hp _ hv => hv.takePresent source plan hp
  | ready after source k =>
    exact .of_atEvent after _ h fun _ hu => hu.takeStation source _ _ fun _ _ hv => hv.takeReady source k
  | hold after source k =>
    exact .of_atEvent after _ h fun _ hu => hu.takeStation source _ _ fun _ _ hv => hv.takeHold source k
  | done after source k v attempt error =>
    exact .of_atEvent after _ h fun _ hu => hu.takeStation source _ _ fun _ _ hv => hv.takeDone source k v
  | lapseGather after source k =>
    exact .of_atEvent after _ h fun _ hu => hu.takeStation source _ _ fun _ _ hv => hv.takeLapseGather source k
  | lapseMeasure after source k =>
    exact .of_atEvent after _ h fun _ hu => hu.takeStation source _ _ fun _ _ hv => hv.takeLapseMeasure source k
  | parked after source reason =>
    exact .of_atEvent after _ h fun _ hu => hu.takeStation source _ _ fun _ _ hv => hv.takeParked source reason
  | reply after source payload =>
    exact .of_atEvent after _ h fun _ hu => hu.takeStation source _ _ fun _ _ hv => hv
  | rstnHeldLow after => exact .of_atEvent after _ h fun _ hu => hu.holdReset

end Sys2Proof.Machine
end

section
/-! Delivery of every command, the resets, and the obligation on the stores (O59). -/

namespace Sys2Proof.Machine

/-! ## Delivery of every command -/

theorem exec_command (e : LocalEvent) (s : State) : exec e.command s = s.atLocal e := by
  cases e <;> rfl

theorem State.atEvent_rstnLow (s : State) (after : Nat) (f : State → State) (hs : s.rstnLow = true) :
    s.atEvent after f = .next s := by
  simp [State.atEvent, hs]

theorem State.atLocal_rstnLow (s : State) (e : LocalEvent) (hs : s.rstnLow = true) : s.atLocal e = .next s := by
  simp [State.atLocal, hs]

/-- While RSTN is held low no command but the two resets reaches the station (log 6): each comes after a time or is a local
event. -/
theorem exec_rstnLow (c : Instr) (s : State) (hs : s.rstnLow = true)
    (hp : ∀ straps clamp mtp, c ≠ .powerOn straps clamp mtp) (hr : ∀ straps clamp mtp, c ≠ .pinReset straps clamp mtp) :
    exec c s = .next s := by
  unfold exec
  cases c with
  | powerOn straps clamp mtp => exact absurd rfl (hp straps clamp mtp)
  | pinReset straps clamp mtp => exact absurd rfl (hr straps clamp mtp)
  | pulseAccepted => exact s.atLocal_rstnLow _ hs
  | filterRearm => exact s.atLocal_rstnLow _ hs
  | referenceWaitExpiry => exact s.atLocal_rstnLow _ hs
  | gatherTimerExpiry => exact s.atLocal_rstnLow _ hs
  | stepDeadlineExpiry => exact s.atLocal_rstnLow _ hs
  | musterWindowExpiry => exact s.atLocal_rstnLow _ hs
  | durationEnd => exact s.atLocal_rstnLow _ hs
  | pressDwellEnd => exact s.atLocal_rstnLow _ hs
  | parkedDwellEnd => exact s.atLocal_rstnLow _ hs
  | loopBurstStart => exact s.atLocal_rstnLow _ hs
  | loopBurstEnd => exact s.atLocal_rstnLow _ hs
  | wakingEnd => exact s.atLocal_rstnLow _ hs
  | _ => exact s.atEvent_rstnLow _ _ hs

/-! ## The resets -/

/-- R93: straps 0 and 31 name no position. -/
theorem isStationPosition_iff (p : Position) : isStationPosition p = true ↔ p ≠ 0 ∧ p ≠ 31 := by
  simp [isStationPosition]

theorem linkOfStraps_eq (p : Position) : linkOfStraps p = if p = 0 ∨ p = 31 then .strapFault else .normal := by
  unfold linkOfStraps
  by_cases h : isStationPosition p = true
  · obtain ⟨h0, h31⟩ := (isStationPosition_iff p).1 h
    rw [if_pos h, if_neg (not_or.2 ⟨h0, h31⟩)]
  · rw [if_neg h, if_pos]
    by_contra hn
    exact h ((isStationPosition_iff p).2 (not_or.1 hn))

/-- R161: the blocks of a station that starts. -/
theorem State.start_blocks (s : State) (straps : Position) (clamp : ClampLevel) (mtp : Level) (plan : PlanStore)
    (run : RunState) :
    (s.start straps clamp mtp plan run).now = 0
      ∧ (s.start straps clamp mtp plan run).line = LineInterface.afterReset straps (linkOfStraps straps)
      ∧ (s.start straps clamp mtp plan run).plan = plan
      ∧ (s.start straps clamp mtp plan run).coord = Coordinator.afterReset run
      ∧ (s.start straps clamp mtp plan run).gate = ErrorGate.idle
      ∧ (s.start straps clamp mtp plan run).front.counter = RefCounter.cleared := by
  unfold State.start
  split <;> exact ⟨rfl, rfl, rfl, rfl, rfl, rfl⟩

/-- R161: the state of a station that starts, with a WAKING entered at time 0 where it is clamped (R153). -/
theorem State.start_eq (s : State) (straps : Position) (clamp : ClampLevel) (mtp : Level) (plan : PlanStore)
    (run : RunState) :
    s.start straps clamp mtp plan run =
      { s.restarted straps clamp mtp plan run with
        power := if clamp = .closed ∧ straps ≠ 0 ∧ straps ≠ 31 then
            { State.reset.power with
              state := .waking, clamp := clamp, wakeStart := some 0,
              tally := some { count := 0, smallest := none, largest := none }, hdpw := true }
          else { State.reset.power with clamp := clamp } } := by
  unfold State.start
  simp only [isStationPosition_iff]
  split <;> rfl

/-- A start keeps the store invariants, the plan's where the plan it starts with meets it. -/
theorem State.start_stores (s t : State) (straps : Position) (clamp : ClampLevel) (mtp : Level) (plan : PlanStore)
    (run : RunState) (ht : t = s.start straps clamp mtp plan run) :
    t.lineSafe ∧ (plan.Sound → t.planSafe) ∧ t.rosterSafe ∧ t.resultSafe ∧ t.counterSafe := by
  obtain ⟨_, hline, hplan, hcoord, hgate, hcounter⟩ := s.start_blocks straps clamp mtp plan run
  subst ht
  refine ⟨?_, fun h => ?_, ?_, ?_, ?_⟩
  · rw [State.lineSafe_iff, hline]
    exact .afterReset straps
  · rwa [State.planSafe_iff, hplan]
  · rw [State.rosterSafe_iff, hcoord]
    exact .nil
  · rw [State.resultSafe_iff, hcoord, hgate]
    exact ⟨.blank, .none⟩
  · rw [State.counterSafe_iff, hcounter]
    exact .zero false

/-- R38: the plan store kept at a pin reset. -/
theorem PlanStore.Sound.keptAtPinReset {p : PlanStore} (h : p.Sound) : p.keptAtPinReset.Sound :=
  h.withFlags p.overrun p.refused false (by simp)

/-- Every command keeps each store: a reset sets the stores up anew, any other command is a chain of operations of which
each keeps them. -/
theorem exec_keepsStores (c : Instr) (s t : State) (h : exec c s = .next t) :
    (s.lineSafe → t.lineSafe) ∧ (s.planSafe → t.planSafe) ∧ (s.rosterSafe → t.rosterSafe)
      ∧ (s.resultSafe → t.resultSafe) ∧ (s.counterSafe → t.counterSafe) := by
  cases c with
  | powerOn straps clamp mtp =>
    obtain ⟨hline, hplan, hroster, hresult, hcounter⟩ := s.start_stores t straps clamp mtp _ _
      (Host.Outcome.next.inj h).symm
    exact ⟨fun _ => hline, fun _ => hplan .empty, fun _ => hroster, fun _ => hresult, fun _ => hcounter⟩
  | pinReset straps clamp mtp =>
    obtain ⟨hline, hplan, hroster, hresult, hcounter⟩ := s.start_stores t straps clamp mtp _ _
      (Host.Outcome.next.inj h).symm
    exact ⟨fun _ => hline, fun hs => hplan (s.planSafe_iff.1 hs).keptAtPinReset, fun _ => hroster, fun _ => hresult,
      fun _ => hcounter⟩
  | _ =>
    have he := exec_leadsTo _ s t h (by simp) (by simp)
    exact ⟨he.lineSafe, he.planSafe, he.rosterSafe, he.resultSafe, he.counterSafe⟩

end Sys2Proof.Machine

open Sys2Proof Sys2Proof.Machine

/-- Settles O59: the front command keeps each store, and so does the passing of 1 µs on an empty queue. -/
theorem stepKeepsStores : Obligations.StepKeepsStores := by
  unfold Obligations.StepKeepsStores
  intro s t h
  unfold step at h
  split at h
  · rename_i c rest _
    exact exec_keepsStores c (s.withPending rest) t h
  · obtain rfl := Host.Outcome.next.inj h
    have hl : s.LeadsTo (s.elapse 1) := (State.LeadsTo.refl s).elapse 1
    exact ⟨hl.lineSafe, hl.planSafe, hl.rosterSafe, hl.resultSafe, hl.counterSafe⟩

end

section
/-! The obligations on the queue, time and reset (O2, O4, O6 to O9, O58). -/

namespace Sys2Proof.Machine

/-- R2: the level that an edge makes active, and the other one. -/
theorem activeLevel_eq (e : Edge) : activeLevel e = if e = .rising then .high else .low := by
  cases e <;> rfl

theorem inactiveLevel_eq (e : Edge) : inactiveLevel e = if e = .rising then .low else .high := by
  cases e <;> rfl

/-! ## The passing of time -/

/-- R1, R76: time moved on to an instant not past. -/
theorem State.setTime_eq (s : State) (t : Nat) (h : s.now ≤ t) :
    s.setTime t = { s with front := { s.front with timeBase := t }, line := s.line.passTime t } := by
  have hm : max s.now t = t := Nat.max_eq_right h
  have hm' : max s.front.timeBase t = t := hm
  simp only [State.setTime, State.mapFront, State.mapLine, hm, hm']

/-- The time moved on brings no local event about. -/
theorem State.due_of_setTime (s : State) (t d : Nat) (e : LocalEvent) (h : (s.setTime t).due e = some d) :
    s.due e = some d := by
  by_cases hb : e = .loopBurstStart
  · subst hb
    have hn : s.now ≤ (s.setTime t).now := by
      rw [State.setTime_now]
      exact Nat.le_max_left _ _
    change (s.setTime t).burstDue = some d at h
    change s.burstDue = some d
    unfold State.burstDue at h ⊢
    split at h
    · rename_i w hw
      rw [show s.power.wakeStart = some w from hw]
      dsimp only
      split at h
      · rename_i hc
        obtain ⟨hwaking, hoff, hle⟩ := hc
        rw [if_pos ⟨hwaking, hoff, Nat.le_trans hn hle⟩]
        exact h
      · simp at h
    · simp at h
  · rwa [s.setTime_due t e hb] at h

/-- What is due now and was not due before now is due at the present instant. -/
theorem State.due_of_dueNow (s : State) (d : Nat) (e : LocalEvent) (hn : s.now = d) (h : s.dueNow e = true)
    (hq : s.dueBefore d e = false) : s.due e = some d := by
  unfold State.dueNow State.dueBefore at h
  unfold State.dueBefore at hq
  cases hd : s.due e with
  | none => simp [hd] at h
  | some x =>
    simp only [hd, decide_eq_true_eq, decide_eq_false_iff_not] at h hq
    exact congrArg some (by omega)

/-- What is not due before an instant is not due before it once time has moved on. -/
theorem State.dueBefore_setTime (s : State) (t x : Nat) (e : LocalEvent) (h : s.dueBefore x e = false) :
    (s.setTime t).dueBefore x e = false := by
  unfold State.dueBefore at h ⊢
  cases hd : (s.setTime t).due e with
  | none => rfl
  | some d => simpa [s.due_of_setTime t d e hd] using h

/-- A local event that is due first is met at its due instant. -/
theorem State.meets_setTime (s : State) (d : Nat) (e : LocalEvent) (hr : s.rstnLow = false) (he : s.due e = some d)
    (hn : s.now ≤ d) (hq : ∀ e, s.dueBefore d e = false) : s.meets e (s.setTime d) := by
  have hnow : (s.setTime d).now = d := by rw [State.setTime_now, Nat.max_eq_right hn]
  refine ⟨hr, ?_, ?_, ?_, ?_⟩ <;> rw [hnow]
  · exact he
  · exact hn
  · exact hq

/-- A local event is due still at the instant at which it is met. -/
theorem State.meets_due (s u : State) (e : LocalEvent) (h : s.meets e u) : u.due e = some u.now := by
  obtain ⟨_, he, hn, _, hu⟩ := h
  by_cases hb : e = .loopBurstStart
  · subst hb
    have hd := s.setTime_burstDue u.now u.now hn (Nat.le_refl _) he
    rwa [← hu] at hd
  · rw [hu, s.setTime_due _ e hb, ← hu, he]

/-- Time that stops at the earliest due instant takes there a local event that was due then, as its row would (log 2). -/
theorem State.takeDue_eq_exec (s : State) (d : Nat) (e : LocalEvent) (hr : s.rstnLow = false) (he : s.due e = some d)
    (hn : s.now ≤ d) (hq : ∀ e, s.dueBefore d e = false) :
    ∃ e' n, s.due e' = some d ∧ exec e'.command { s with freeDraws := n } = .next (s.setTime d).takeDue := by
  have hnow : (s.setTime d).now = d := by rw [State.setTime_now, Nat.max_eq_right hn]
  have hdue : (s.setTime d).due e = some d := (s.meets_due _ e (s.meets_setTime d e hr he hn hq)).trans (by rw [hnow])
  have hdueNow : (s.setTime d).dueNow e = true := by simp [State.dueNow, State.dueBefore, hdue, hnow]
  obtain ⟨e', n, he', htake⟩ := (s.setTime d).takeDue_fires e hdueNow
  have hdue' : s.due e' = some d :=
    s.due_of_setTime d d e' ((s.setTime d).due_of_dueNow d e' hnow he' (s.dueBefore_setTime d d e' (hq e')))
  refine ⟨e', n, hdue', ?_⟩
  rw [exec_command, htake]
  exact State.atLocal_meets _ _ e' (State.meets_setTime { s with freeDraws := n } d e' hr hdue' hn hq)

end Sys2Proof.Machine

open Sys2Proof Sys2Proof.Machine

/-- Settles O2: the three clauses are the idle step, a stretch of time with nothing due in it, and one that stops. -/
theorem idleStepPassesTime : Obligations.IdleStepPassesTime := by
  unfold Obligations.IdleStepPassesTime
  refine ⟨fun s hp => ?_, fun s dt hr hq => ?_, fun s dt d hr ⟨e, he⟩ hn hd hq => ?_⟩
  · have hstep : step s = .next (s.elapse 1) := by simp [step, hp]
    exact ⟨hstep, fun hr => by rw [hstep, s.elapse_rstnLow 1 hr]⟩
  · rw [s.elapse_quiet dt hr hq, s.setTime_eq _ (Nat.le_add_right _ _)]
    rfl
  · obtain ⟨e', n, he', hexec⟩ := s.takeDue_eq_exec d e hr he hn hq
    refine ⟨e', n, _, he', hexec, ?_, s.elapse_stops dt d e hr he hd hq⟩
    rw [(s.setTime d).takeDue_keeps.1, State.setTime_now, Nat.max_eq_right hn]

/-- Settles O4: a start sets the time base to 0; any other command is a chain of operations that do not take it back. -/
theorem timeBaseNeverGoesBack : Obligations.TimeBaseNeverGoesBack := by
  unfold Obligations.TimeBaseNeverGoesBack
  intro c s t h
  cases c with
  | powerOn straps clamp mtp =>
    obtain rfl := Host.Outcome.next.inj h
    exact (s.start_blocks straps clamp mtp _ _).1
  | pinReset straps clamp mtp =>
    obtain rfl := Host.Outcome.next.inj h
    exact (s.start_blocks straps clamp mtp _ _).1
  | _ => exact (exec_leadsTo _ s t h (by simp) (by simp)).now

/-- Settles O6: the reset state is written out in the manual's values. -/
theorem resetHasThePowerOnValues : Obligations.ResetHasThePowerOnValues :=
  ⟨rfl, rfl, rfl, rfl, rfl, rfl, rfl, rfl, rfl⟩

/-- Settles O58, invariant by invariant. -/
theorem resetStateIsSafe : Obligations.ResetStateIsSafe := by
  unfold Obligations.ResetStateIsSafe
  refine ⟨?_, ?_, ?_, ?_, ?_, ?_, ?_, ?_, ?_, ?_, ?_, ?_, ?_⟩ <;> decide

/-- Settles O7: a start with the emptied plan store. -/
theorem powerOnStartsTheStation : Obligations.PowerOnStartsTheStation := by
  unfold Obligations.PowerOnStartsTheStation
  intro straps clamp mtp s
  change Host.Outcome.next (s.start straps clamp mtp _ _) = _
  rw [State.start_eq]
  simp only [State.restarted, linkOfStraps_eq]
  rfl

/-- Settles O8: a start with the plan store kept, its load session SHUT. -/
theorem pinResetKeepsThePlan : Obligations.PinResetKeepsThePlan := by
  unfold Obligations.PinResetKeepsThePlan
  intro straps clamp mtp s setting hsetting
  have hs : s.plan.keptAtPinReset.filterSetting = setting := hsetting.symm
  change Host.Outcome.next (s.start straps clamp mtp _ _) = _
  rw [State.start_eq]
  simp only [State.restarted, linkOfStraps_eq, hs, inputAtReset, activeLevel_eq]
  rfl

/-- Settles O9: what the reset does as RSTN goes low, and that nothing reaches the station from then on. -/
theorem rstnHeldLowStopsTheStation : Obligations.RstnHeldLowStopsTheStation := by
  unfold Obligations.RstnHeldLowStopsTheStation
  refine ⟨fun after s u h => ?_, fun c s hs hp hr => exec_rstnLow c s hs hp hr⟩
  change s.atEvent after State.holdReset = _
  rw [s.atEvent_reaches u after _ h]
  simp only [State.holdReset, State.mapFront, FrontEnd.loopOff_eq]
  rfl

end

section
/-! The obligations on the pulse inputs, the counter and the loop burst (O10 to O12, O17, O21). -/

namespace Sys2Proof.Machine

/-! ## Accepted pulses (R3, R6, R7, R9) -/

/-- R3: a pulse is accepted of an input in QUALIFY. -/
theorem State.meets_pulse (s u : State) (h : s.meets .pulseAccepted u) : u.front.input = .qualify := by
  have hd : u.front.pulseDue = some u.now := s.meets_due u _ h
  by_contra hi
  simp [FrontEnd.pulseDue, hi] at hd

/-- R6, R7: the pulse of a candidate updates filter and period measure and is handed over. -/
theorem State.acceptPulse_eq (u : State) (stamp : Nat) (hi : u.front.input = .qualify)
    (hc : u.front.candidate = some stamp) :
    u.acceptPulse = (u.afterPulse stamp).routePulse stamp (u.formedPeriod stamp) := by
  have hf : u.mapFront (fun f => f.accept stamp) = u.afterPulse stamp := by
    cases hp : u.front.lastPulse <;>
      simp [State.mapFront, FrontEnd.accept, FrontEnd.periodAt, State.afterPulse, hp, periodBetween, Config.periodMax]
  simp only [State.acceptPulse, hi, hc, hf]
  rfl

/-- PULSE_ACCEPTED at its instant. -/
theorem exec_pulseAccepted (s u : State) (stamp : Nat) (h : s.meets .pulseAccepted u)
    (hc : u.front.candidate = some stamp) :
    exec .pulseAccepted s = .next ((u.afterPulse stamp).routePulse stamp (u.formedPeriod stamp)) := by
  rw [← u.acceptPulse_eq stamp (s.meets_pulse u h) hc]
  exact s.atLocal_meets u _ h

/-- R9: in STRAP-FAULT, and outside WAKING with no unit of an AWAKE station taking pulses, a pulse has no consumer. -/
theorem State.consumer_nobody (u : State)
    (h : u.line.link = .strapFault ∨ (u.power.state ≠ .waking ∧ (u.power.state = .awake →
      u.gate.state.takesPulses = false ∧ u.timed.state.takesPulses = false))) : u.consumer = .nobody := by
  unfold State.consumer
  rcases h with hl | ⟨hw, hu⟩
  · rw [if_pos hl]
  · by_cases ha : u.power.state = .awake
    · simp [ha, hu ha]
    · simp [ha, hw]

/-- R9: the gate of an AWAKE station comes before the timed unit. -/
theorem State.consumer_errorGate (u : State) (hl : u.line.link ≠ .strapFault) (ha : u.power.state = .awake)
    (hg : u.gate.state.takesPulses = true) : u.consumer = .errorGate := by
  simp [State.consumer, hl, ha, hg]

theorem GateState.takesPulses_eq_false (g : GateState) (hw : g ≠ .waitingOpen) (ho : g ≠ .opened) :
    g.takesPulses = false := by
  cases g <;> simp_all [GateState.takesPulses]

theorem TimedState.takesPulses_eq_false (u : TimedState) (hc : u ≠ .counting) (ht : u ≠ .trailing) :
    u.takesPulses = false := by
  cases u <;> simp_all [TimedState.takesPulses]

/-! ## The reference counter (R12, R14) -/

/-- R12: an edge counts below the limit. -/
theorem RefCounter.edge_below (c : RefCounter) (hc : c.counting = true) (hv : c.value + 1 < 4_294_967_295) :
    c.edge = { c with value := c.value + 1 } := by
  have h1 : c.value < 4_294_967_295 := by omega
  have h2 : c.value + 1 ≠ 4_294_967_295 := by omega
  simp [RefCounter.edge, Config.counterMax, hc, h1, h2]

/-- R12: an edge reaches the limit, with the overrange mark. -/
theorem RefCounter.edge_limit (c : RefCounter) (hc : c.counting = true) (hv : c.value + 1 = 4_294_967_295) :
    c.edge = { counting := true, value := 4_294_967_295, overrange := true } := by
  have h1 : c.value < 4_294_967_295 := by omega
  simp [RefCounter.edge, Config.counterMax, hc, h1, hv]

/-- R12: a counter that is STOPPED or at its limit keeps its value. -/
theorem RefCounter.edge_still (c : RefCounter) (h : c.counting = false ∨ 4_294_967_295 ≤ c.value) : c.edge = c := by
  unfold RefCounter.edge
  rw [if_neg]
  rcases h with h | h
  · simp [h]
  · have hv : ¬ c.value < Config.counterMax := Nat.not_lt.2 h
    simp [hv]

/-- R12, R14: a reference edge with no request pending. -/
theorem State.referenceEdge_noRequest (u : State) (h : u.front.nextEdge = false) :
    u.referenceEdge =
      { u with front := { u.front with
          counter := u.front.counter.edge, refSeen := if u.power.state = .waking then true else u.front.refSeen } } := by
  have hs : (u.front.refSeen || u.power.state == .waking) =
      if u.power.state = .waking then true else u.front.refSeen := by
    by_cases hw : u.power.state = .waking <;> simp [hw]
  unfold State.referenceEdge
  rw [if_neg (by simp [h])]
  simp only [State.countEdge, State.mapFront, hs]

/-! ## The loop burst (R15, R153, R154) -/

/-- R153: a burst starts in WAKING. -/
theorem State.meets_burstStart (s u : State) (h : s.meets .loopBurstStart u) : u.power.state = .waking := by
  have hd : u.burstDue = some u.now := s.meets_due u _ h
  unfold State.burstDue at hd
  split at hd
  · split at hd
    · rename_i hc
      exact hc.1
    · simp at hd
  · simp at hd

/-- R15: a burst that ends has started. -/
theorem State.meets_burstEnd (s u : State) (h : s.meets .loopBurstEnd u) : ∃ b, u.front.loop = .burst b := by
  have hd : u.front.loop.endDue = some u.now := s.meets_due u _ h
  cases hl : u.front.loop with
  | off => simp [LoopGen.endDue, hl] at hd
  | burst b => exact ⟨b, rfl⟩

/-- R5, R15: the burst starts with a restart of the filter under the self-test setting. -/
theorem FrontEnd.loopStart_eq (f : FrontEnd) :
    f.loopStart =
      { f with
        loop := .burst f.timeBase, candidate := none, releaseTime := none, lastPulse := f.pulseAtHand,
        lastPeriod := none
        input := if f.mtp = .high then .waitRelease else .waitEdge } := by
  unfold FrontEnd.loopStart
  rw [f.completing_eq, FrontEnd.restartFilter_eq]
  rfl

/-- R8, R154: the power unit once a burst has ended and the pulse that the restart met is handed over. -/
theorem State.handRestarted_loopOff (u : State) (b : Nat) (hl : u.front.loop = .burst b) :
    ({ u with front := u.front.unburst } : State).handRestarted u.front =
      { u with
        front := u.front.unburst
        power := u.powerAfterRestart (u.front.planSetting != { edge := .rising, width := 5 }) } := by
  have hcand : u.front.unburst.candidate =
      if u.front.planSetting = { edge := .rising, width := 5 } then u.front.candidate else none := by
    by_cases hs : u.front.planSetting = { edge := .rising, width := 5 } <;>
      simp [FrontEnd.unburst, FrontEnd.restartedUnder, hl, hs]
  have hoff : u.front.unburst.loop = .off := by
    unfold FrontEnd.unburst
    split <;> rfl
  have hnow : ({ u with front := u.front.unburst } : State).now = u.now := u.front.unburst_keeps.1
  rw [State.handRestarted_eq]
  congr 1
  unfold State.powerAfterRestart
  cases hp : u.front.pulseAtHand with
  | none => simp
  | some p =>
    have hc := u.front.candidate_ne_none p hp
    cases hw : u.power.wakeStart with
    | none => simp [State.burstStarted, hoff, hw]
    | some w =>
      by_cases hs : u.front.planSetting = { edge := .rising, width := 5 } <;>
        simp [hcand, hs, hc, State.burstStarted, hoff, hnow, hw, Config.burstDelay]

/-- R15: LOOP is high for the first 2 ms of each 4 ms of a burst. -/
theorem FrontEnd.loopPin_high_iff (f : FrontEnd) (b : Nat) (hl : f.loop = .burst b) :
    f.loopPin = .high ↔ f.timeBase - b < 80_000 ∧ (f.timeBase - b) % 4_000 < 2_000 := by
  unfold FrontEnd.loopPin
  rw [hl]
  by_cases h : f.timeBase - b < 80_000 ∧ (f.timeBase - b) % 4_000 < 2_000
  · exact iff_of_true (if_pos h) h
  · exact iff_of_false (fun hp => Level.noConfusion ((if_neg h).symm.trans hp)) h

end Sys2Proof.Machine

open Sys2Proof Sys2Proof.Machine

/-- Settles O10: the changes of MTP by the input state, and the two holds. -/
theorem meterInputQualifiesEdges : Obligations.MeterInputQualifiesEdges := by
  unfold Obligations.MeterInputQualifiesEdges
  refine ⟨fun after s u active inactive h ha hi => ?_, fun s u => ⟨fun h => ?_, fun t hq hr => ?_, fun t hq hc => ?_⟩⟩
  · have hact : exec (.mtpActiveChange after) s = .next (u.mapFront FrontEnd.becomeActive) :=
      s.atEvent_reaches u after (fun t => t.mapFront FrontEnd.becomeActive) h
    have hinact : exec (.mtpInactiveChange after) s = .next (u.mapFront FrontEnd.becomeInactive) :=
      s.atEvent_reaches u after (fun t => t.mapFront FrontEnd.becomeInactive) h
    rw [← activeLevel_eq] at ha
    rw [← inactiveLevel_eq] at hi
    rw [hact, hinact, ha, hi]
    simp only [State.mapFront, FrontEnd.becomeActive, FrontEnd.becomeInactive]
    cases u.front.input <;> simp [State.now]
  · have hin : u.front.input = .qualifyRelease := by
      have hd : u.front.rearmDue = some u.now := s.meets_due u _ h
      by_contra hn
      simp [FrontEnd.rearmDue, hn] at hd
    rw [show exec .filterRearm s = .next u.rearmFilter from s.atLocal_meets u _ h]
    simp [State.rearmFilter, hin, State.mapFront]
  · simp [State.due, FrontEnd.rearmDue, hq, hr, FrontEnd.widthMicros, Config.widthUnit]
  · simp [State.due, FrontEnd.pulseDue, hq, hc, FrontEnd.widthMicros, Config.widthUnit]

/-- Settles O11: with no consumer the hand-over changes nothing. -/
theorem pulseWithoutConsumerUpdatesPeriod : Obligations.PulseWithoutConsumerUpdatesPeriod := by
  unfold Obligations.PulseWithoutConsumerUpdatesPeriod
  intro s u stamp h hc hno
  have hn : (u.afterPulse stamp).consumer = .nobody := by
    refine (u.afterPulse stamp).consumer_nobody (hno.imp_right fun ⟨hw, hu⟩ => ⟨hw, fun ha => ?_⟩)
    obtain ⟨hwait, hopen, hcount, htrail⟩ := hu ha
    exact ⟨GateState.takesPulses_eq_false _ hwait hopen, TimedState.takesPulses_eq_false _ hcount htrail⟩
  rw [exec_pulseAccepted s u stamp h hc, State.routePulse, hn]

/-- Settles O12: the pulse goes to the gate, which it opens. -/
theorem openingPulseStartsCounter : Obligations.OpeningPulseStartsCounter := by
  unfold Obligations.OpeningPulseStartsCounter
  intro s u stamp h hc hl ha hg
  have hgate : (u.afterPulse stamp).gate.state = .waitingOpen := hg
  have hcons : (u.afterPulse stamp).consumer = .errorGate :=
    (u.afterPulse stamp).consumer_errorGate hl ha (by rw [hgate]; rfl)
  rw [exec_pulseAccepted s u stamp h hc, State.routePulse, hcons]
  simp only [State.gatePulse, hgate]
  rfl

/-- Settles O17, by what an edge does to the counter. -/
theorem referenceEdgeCounts : Obligations.ReferenceEdgeCounts := by
  unfold Obligations.ReferenceEdgeCounts
  intro after s u h hn
  have hexec : exec (.referenceEdge after) s = .next u.referenceEdge := s.atEvent_reaches u after _ h
  rw [hexec, u.referenceEdge_noRequest hn]
  refine ⟨fun hc hv => ?_, fun hc hv => ?_, fun hv => ?_⟩
  · rw [u.front.counter.edge_below hc hv]
  · rw [u.front.counter.edge_limit hc hv]
  · rw [u.front.counter.edge_still hv]

/-- Settles O21: the two ends of a burst, the wave of LOOP, and when each end is due. -/
theorem loopBurstSwitchesSetting : Obligations.LoopBurstSwitchesSetting := by
  unfold Obligations.LoopBurstSwitchesSetting
  refine ⟨fun s u h => ?_, fun s u h => ?_, fun f hl => ?_, fun f b hl hb => ?_, fun s b hl => ?_,
    fun s w hw hs hl hn => ?_⟩
  · rw [show exec .loopBurstStart s = .next u.startBurst from s.atLocal_meets u _ h]
    have hw := s.meets_burstStart u h
    simp [State.startBurst, State.handRestarted_eq, State.mapFront, FrontEnd.loopStart_eq, State.burstStarted, hw]
    rfl
  · obtain ⟨b, hb⟩ := s.meets_burstEnd u h
    rw [show exec .loopBurstEnd s = .next u.endBurst from s.atLocal_meets u _ h, ← u.handRestarted_loopOff b hb,
      ← FrontEnd.loopOff_eq]
    rfl
  · simp [FrontEnd.loopPin, hl]
  · rw [f.loopPin_high_iff b hl]
    constructor
    · rintro ⟨hlen, hhigh⟩
      exact ⟨(f.timeBase - b) / 4_000 + 1, by omega, by omega, by omega, by omega⟩
    · rintro ⟨i, h1, h20, hrise, hfall⟩
      omega
  · exact ⟨by simp [FrontEnd.inForce, hl, FilterSetting.default, Config.defaultWidth],
      by simp [State.due, LoopGen.endDue, hl, Config.burstLength]⟩
  · exact ⟨by simp [FrontEnd.inForce, hl],
      by simp [State.due, State.burstDue, hs, hw, hl, Config.burstDelay, hn]⟩

end

section
/-! The obligations on the clamp, an applied PLAN and the bench resets (O24, O32, O39, O40). -/

namespace Sys2Proof.Machine

/-! ## Parking (R142, R143, R150, R152) -/

theorem ClosureUnit.cutPress_eq (c : ClosureUnit) : c.cutPress = c.pressCut := by
  unfold ClosureUnit.cutPress ClosureUnit.pressCut
  cases c.press <;> rfl

/-- R142, R143: the closure unit of a station that parks. -/
theorem ClosureUnit.released_pressCut (c : ClosureUnit) :
    { c.pressCut with caln := .released } =
      { press := .off, caln := .released
        record := if c.press = .off then c.record else c.record.map fun r => { r with press := .cut } } := by
  cases h : c.press <;> simp [ClosureUnit.pressCut, h]

/-- R152: the press is cut and PARKED entered, with the clamp open. -/
theorem State.parks_eq (s : State) (h : s.power.clamp = .opened) : s.cutPress.enterParked = s.parks := by
  rw [State.cutPress_eq]
  simp only [State.enterParked, State.releaseCaln, State.mapPower, State.mapClosure, ClosureUnit.released_pressCut, h]
  rfl

/-- R156, R157: the state once PARKED is queued. -/
def State.tells (s : State) (r : ParkedReason) : State :=
  { s with line := { s.line with
      queue := { s.line.queue with parked := some { frame := r, fails := 0, offered := false } } } }

theorem State.queueParked_onLine (s : State) (r : ParkedReason) (h : s.line.link ≠ .strapFault) :
    s.queueParked r = s.tells r :=
  s.request_onLine _ h

/-- CLAMP_OPENING at a station that takes part in the line. -/
theorem exec_clampOpening (s u : State) (after : Nat) (h : s.reaches after u) (hl : u.line.link ≠ .strapFault) :
    exec (.clampOpening after) s = .next (u.setClamp .opened).actOnOpening := by
  rw [show exec (.clampOpening after) s = .next u.clampOpens from s.atEvent_reaches u after _ h, State.clampOpens, if_neg hl]

theorem State.actOnOpening_parked (s : State) (h : s.power.state = .parked) : s.actOnOpening = s.openParked := by
  simp only [State.actOnOpening, h]

theorem State.actOnOpening_waking (s : State) (h : s.power.state = .waking) : s.actOnOpening = s.openWaking := by
  simp only [State.actOnOpening, h]

theorem State.actOnOpening_awake (s : State) (h : s.power.state = .awake) : s.actOnOpening = s.openAwake := by
  simp only [State.actOnOpening, h]

theorem State.actOnOpening_headFault (s : State) (h : s.power.state = .headFault) :
    s.actOnOpening = s.openHeadFault := by
  simp only [State.actOnOpening, h]

/-- R16, R156: a clamp opening in WAKING, before a remembered MUSTER is dropped. -/
theorem State.openWaking_eq (s : State) (hc : s.power.clamp = .opened) (hl : s.line.link ≠ .strapFault) :
    s.openWaking = ({ s.parks.tells .clampOpen with front := s.front.unburst } : State).dropMuster := by
  have hn : (s.mapFront FrontEnd.loopOff).now = s.now := by
    unfold State.now
    rw [State.mapFront_front, FrontEnd.loopOff_eq, s.front.unburst_keeps.1]
  rw [State.openWaking, State.parks_eq (s.mapFront FrontEnd.loopOff) hc,
    State.queueParked_onLine (s.mapFront FrontEnd.loopOff).parks _ hl, State.parks, hn]
  simp only [State.mapFront, FrontEnd.loopOff_eq]
  rfl

/-- R156: in WAKING with no MUSTER remembered. -/
theorem State.openWaking_noMuster (s : State) (hc : s.power.clamp = .opened) (hl : s.line.link ≠ .strapFault)
    (hs : s.coord.stage ≠ .remembered) :
    s.openWaking = { s.parks.tells .clampOpen with front := s.front.unburst } :=
  (s.openWaking_eq hc hl).trans (if_neg hs)

/-- R99: in WAKING with a MUSTER remembered. -/
theorem State.openWaking_muster (s : State) (hc : s.power.clamp = .opened) (hl : s.line.link ≠ .strapFault)
    (hs : s.coord.stage = .remembered) :
    s.openWaking = ({ s.parks.tells .clampOpen with front := s.front.unburst } : State).unenrolled :=
  (s.openWaking_eq hc hl).trans (if_pos hs)

/-- R146: a CLOSED station, and one with no run and no enrollment, stay as they are at a clamp opening. -/
theorem State.coordinatorAtOpening_stays (s : State)
    (h : s.coord.run = .closed ∨ (s.coord.run = .idle ∨ s.coord.run = .loaded) ∧ s.coord.stage = .none) :
    s.coordinatorAtOpening = s := by
  unfold State.coordinatorAtOpening
  rcases h with hr | ⟨hr | hr, hs⟩ <;> simp only [hr]
  · rw [if_pos hs]
  · rw [if_pos hs]

/-- R135: a CLOSING ends at a clamp opening. -/
theorem State.coordinatorAtOpening_closing (s : State) (hr : s.coord.run = .closing) (hs : s.coord.stage = .none) :
    s.coordinatorAtOpening = s.loadedAtOpening := by
  simp only [State.coordinatorAtOpening, hr, State.endMuster, hs, if_true]

/-- R103: an enrollment ends at a clamp opening. -/
theorem State.coordinatorAtOpening_enrollment (s : State)
    (h : s.coord.run = .enrolled ∨ (s.coord.run = .loaded ∨ s.coord.run = .closing) ∧ s.coord.stage ≠ .none) :
    s.coordinatorAtOpening = s.unenrolled.loadedAtOpening := by
  unfold State.coordinatorAtOpening
  rcases h with hr | ⟨hr | hr, hs⟩ <;> simp only [hr]
  · rfl
  · rw [if_neg hs]
    rfl
  · rw [State.endMuster, if_neg hs]
    rfl

/-- R157: a clamp opening in AWAKE, from what the coordinator does at it. -/
theorem State.openAwake_eq (s v : State) (h : s.coordinatorAtOpening = v) (hc : v.power.clamp = .opened)
    (hl : v.line.link ≠ .strapFault) :
    s.openAwake = v.parks.tells .clampOpen := by
  rw [State.openAwake, h, v.parks_eq hc, v.parks.queueParked_onLine _ hl]

/-! ## The applied PLAN (R2, R22 to R26) -/

theorem planFields_eq (x : PlanPayload) :
    planFields x =
      { cref := x.cref.toNat, edge := x.edge, width := max 1 x.filter.toNat, gather := min 120 (max 5 x.gather.toNat) } := by
  have hw : clampNat 1 255 x.filter.toNat = max 1 x.filter.toNat := by
    have := x.filter.isLt
    unfold clampNat
    omega
  rw [planFields, hw]
  rfl

/-- R23: the content of a PLAN that is applied. -/
theorem planContentGood_of (x : PlanPayload) (hn : x.number ≠ 0) (h1 : 1 ≤ x.cref.toNat)
    (h2 : x.cref.toNat ≤ 2_000_000_000) : planContentGood x = true := by
  have hb : (x.number != 0) = true := bne_iff_ne.2 hn
  simp only [planContentGood, hb, h1, h2, decide_true, Bool.and_self]

theorem RunState.takesPlan_of (r : RunState) (h : r = .idle ∨ r = .loaded ∨ r = .closing) : r.takesPlan = true := by
  rcases h with rfl | rfl | rfl <;> rfl

/-- R24: the setting of an applied PLAN put in force on the state `t` that its plan record leaves. -/
theorem State.applySetting_eq (u t : State) (x : FilterSetting) (hf : t.front = u.front) (hp : t.power = u.power)
    (hl : t.line = u.line) :
    (t.mapFront fun f => f.setPlanSetting x).handRestarted u.front =
      { t with
        front := u.front.withSetting x
        power := u.powerAfterRestart (u.front.loop == .off && u.front.planSetting != x) } := by
  have hfront : (t.mapFront fun f => f.setPlanSetting x).front = u.front.withSetting x := by
    rw [State.mapFront_front, FrontEnd.setPlanSetting_eq, hf]
  rw [u.handRestarted_setting x (t.mapFront fun f => f.setPlanSetting x) (by rw [hfront])
    (by rw [hfront, FrontEnd.withSetting_loop]) (by rw [hfront, (FrontEnd.withSetting_keeps _ _).1]) hp
    (by rw [State.mapFront_line, hl])]
  simp only [State.mapFront, FrontEnd.setPlanSetting_eq, hf]

/-! ## The bench resets (R18, R94, R108, R133) -/

/-- R5, R8, R18: the front end after a RESET with scope ALL. -/
theorem FrontEnd.benchReset_withSetting (f : FrontEnd) (x : FilterSetting) :
    f.benchReset.withSetting x =
      { f.withSetting x with
        lastPulse := if (f.withSetting x).candidate = none then f.pulseAtHand else none
        lastPeriod := none, counter := { counting := false, value := 0, overrange := false }, nextEdge := false } := by
  have hp : f.benchReset.pulseAtHand = f.pulseAtHand := rfl
  by_cases h : f.loop = .off ∧ f.planSetting ≠ x
  · have h' : f.benchReset.loop = .off ∧ f.benchReset.planSetting ≠ x := h
    rw [FrontEnd.withSetting, if_pos h', FrontEnd.withSetting, if_pos h, hp]
    rfl
  · have h' : ¬(f.benchReset.loop = .off ∧ f.benchReset.planSetting ≠ x) := h
    have hn : (if f.candidate = none then f.pulseAtHand else none) = none := by
      by_cases hc : f.candidate = none <;> simp [hc, f.candidate_of_pulseAtHand]
    rw [FrontEnd.withSetting, if_neg h', FrontEnd.withSetting, if_neg h]
    simp only [hn]
    rfl

/-- R94: the line interface after a bench reset that a frame brings. -/
theorem LineInterface.benchReset_afterFrame (l : LineInterface) (h : l.receive = ReceiveRecord.empty) :
    l.benchReset =
      { l with
        link := if l.link = .linkFault then .normal else l.link
        queue := OutQueue.empty, transmit := none, role := .none } := by
  simp only [LineInterface.benchReset, LineInterface.endAttempt, ← h]

/-- A frame that is taken leaves the receive record empty (R94). -/
theorem State.takes_receive (s u : State) (after : Nat) (h : s.takes after u) : u.line.receive = ReceiveRecord.empty := by
  obtain ⟨_, _, rfl⟩ := h
  rfl

/-- A RESET with scope ALL, with the pulse that the restart of the filter met handed over. -/
theorem State.resetAllHere_eq (u : State) :
    u.resetAllHere =
      { u with
        front := u.front.benchReset.withSetting FilterSetting.default
        power := u.powerAfterRestart (u.front.loop == .off && u.front.planSetting != FilterSetting.default)
        plan := PlanStore.empty
        gate := ErrorGate.idle
        timed := TimedUnit.idle
        line := u.line.benchReset
        coord := u.coord.benchReset .idle none
        closure := u.closure.resetAll } := by
  have hlink : u.line.benchReset.link = .strapFault ↔ u.line.link = .strapFault := by
    cases hl : u.line.link <;> simp [LineInterface.benchReset, hl]
  unfold State.resetAllHere
  rw [FrontEnd.setPlanSetting_eq]
  refine (u.handRestarted_setting FilterSetting.default _ ?_ ?_ ?_ ?_ ?_).trans rfl
  · rw [FrontEnd.benchReset_withSetting]
  · exact FrontEnd.withSetting_loop _ _
  · exact (FrontEnd.withSetting_keeps _ _).1
  · rfl
  · exact hlink

end Sys2Proof.Machine

open Sys2Proof Sys2Proof.Machine

/-- Settles O24, by the power state and then the run state. -/
theorem clampOpeningParks : Obligations.ClampOpeningParks := by
  unfold Obligations.ClampOpeningParks
  intro after s u told entry h hentry htold
  subst hentry htold
  refine ⟨fun hl => ?_, fun hl hp => ?_, fun hl hp => ?_, fun hl hp hs => ?_, fun hl hp hs => ?_, fun hl hp hr => ?_,
    fun hl hp hr hs => ?_, fun hl hp hr => ?_⟩
  · rw [show exec (.clampOpening after) s = .next u.clampOpens from s.atEvent_reaches u after _ h, State.clampOpens, if_pos hl]
    rfl
  all_goals rw [exec_clampOpening s u after h hl]
  · rw [State.actOnOpening_parked (u.setClamp .opened) hp, State.openParked, State.cutPress_eq]
    rfl
  · rw [State.actOnOpening_headFault (u.setClamp .opened) hp, State.openHeadFault, State.parks_eq _ rfl]
    rfl
  · rw [State.actOnOpening_waking (u.setClamp .opened) hp,
      State.openWaking_noMuster (u.setClamp .opened) rfl hl hs]
    rfl
  · rw [State.actOnOpening_waking (u.setClamp .opened) hp,
      State.openWaking_muster (u.setClamp .opened) rfl hl hs]
    rfl
  all_goals rw [State.actOnOpening_awake (u.setClamp .opened) hp]
  · rw [State.openAwake_eq _ _ ((u.setClamp .opened).coordinatorAtOpening_stays hr) rfl hl]
    rfl
  · rw [State.openAwake_eq _ _ ((u.setClamp .opened).coordinatorAtOpening_closing hr hs) rfl hl]
    rfl
  · rw [State.openAwake_eq _ _ ((u.setClamp .opened).coordinatorAtOpening_enrollment hr) rfl hl]
    rfl

/-- Settles O32: an applied PLAN, with the plan number of the store or with a new one. -/
theorem appliedPlanReplacesPlan : Obligations.AppliedPlanReplacesPlan := by
  unfold Obligations.AppliedPlanReplacesPlan
  intro after sel x s u v w first last h hrun hn h1 h2 hw hfirst hlast hv
  have hexec : exec (.plan after sel x) s = .next (u.applyPlan x) := by
    rw [show exec (.plan after sel x) s = .next (u.takePlan x) from s.takeConsole_matching u after _ sel _ h, State.takePlan,
      RunState.takesPlan_of _ hrun, planContentGood_of x hn h1 h2]
    rfl
  have hset : planSettingOf x = { edge := x.edge, width := w } := by rw [planSettingOf, planFields_eq, hw]
  have happly : ∀ t : State, t.front = u.front → t.power = u.power → t.line = u.line → u.emptyIfNew x = t →
      u.applyPlan x =
        ({ t with
          front := v.front
          power := v.power
          plan := t.plan.apply x } : State).unmustered := by
    intro t hf hp hl ht
    rw [State.applyPlan, ht, u.applySetting_eq (t.mapPlan fun p => p.apply x) _ hf hp hl, hset, hv]
    rfl
  have hplan : ∀ p : PlanStore, p.apply x =
      { p with
        number := x.number
        fields := some { cref := x.cref.toNat, edge := x.edge, width := w, gather := min 120 (max 5 x.gather.toNat) }
        windowFirst := first, windowLast := last, cursor := first, overrun := false, refused := false
        sessionOpen := true } := by
    intro p
    rw [PlanStore.apply, planFields_eq, hw, hlast, hfirst]
    rfl
  rw [hexec]
  refine ⟨fun he => ?_, fun he => ?_⟩
  · rw [happly u rfl rfl rfl (if_pos he), hplan, hv]
  · rw [happly u.emptyForNewPlan rfl rfl rfl (if_neg he), hplan, hv]
    by_cases hs : u.coord.stage = .none
    · simp only [State.unmustered, State.emptyForNewPlan, State.mapPlan, State.mapCoord, hs, if_true]
      rfl
    · simp only [State.unmustered, State.emptyForNewPlan, State.mapPlan, State.mapCoord, hs, if_false]
      rfl

/-- Settles O39, block by block. -/
theorem resetRunKeepsPlan : Obligations.ResetRunKeepsPlan := by
  unfold Obligations.ResetRunKeepsPlan
  intro after sel s u h
  rw [show exec (.resetRun after sel) s = .next u.resetRunHere from s.takeSelective_matching u after _ sel _ _ h]
  simp only [State.resetRunHere, u.line.benchReset_afterFrame (s.takes_receive u after h.1), ClosureUnit.cutPress_eq]
  rfl

/-- Settles O40, block by block, with the pulse that the restart of the filter met. -/
theorem resetAllEmptiesPlan : Obligations.ResetAllEmptiesPlan := by
  unfold Obligations.ResetAllEmptiesPlan
  intro after sel s u front h hfront
  subst hfront
  rw [show exec (.resetAll after sel) s = .next u.resetAllHere from s.takeSelective_matching u after _ sel _ _ h]
  rw [u.resetAllHere_eq, FrontEnd.benchReset_withSetting, u.line.benchReset_afterFrame (s.takes_receive u after h.1)]
  rfl

end

section
/-! The obligations on plan traffic, the step record and HOLD (O33, O34, O47, O54). -/

namespace Sys2Proof.Machine

/-! ## Plan traffic that is refused (R22, R23, R28, R29) -/

/-- R22, R28: the run states in which plan traffic is considered. -/
theorem RunState.takesPlan_iff (r : RunState) : r.takesPlan = true ↔ r = .idle ∨ r = .loaded ∨ r = .closing := by
  cases r <;> simp [RunState.takesPlan]

/-- R23: the content of a PLAN that may be applied. -/
theorem planContentGood_iff (x : PlanPayload) :
    planContentGood x = true ↔ x.number ≠ 0 ∧ 1 ≤ x.cref.toNat ∧ x.cref.toNat ≤ 2_000_000_000 := by
  simp [planContentGood, and_assoc]

/-- A PLAN that matches. -/
theorem exec_plan_matching (s u : State) (after : Nat) (sel : Selector) (x : PlanPayload)
    (h : s.takesMatching after sel u) : exec (.plan after sel x) s = .next (u.takePlan x) :=
  s.takeConsole_matching u after _ sel _ h

/-- A STEP that matches. -/
theorem exec_step_matching (s u : State) (after : Nat) (sel : Selector) (x : StepPayload)
    (h : s.takesMatching after sel u) : exec (.step after sel x) s = .next (u.takeStep x) :=
  s.takeConsole_matching u after _ sel _ h

/-- R22, R23: a PLAN in another run state, or with content out of range, is ignored. -/
theorem State.takePlan_ignored (u : State) (x : PlanPayload)
    (h : ¬(u.coord.run.takesPlan = true ∧ planContentGood x = true)) : u.takePlan x = u.ignorePlan := by
  rw [State.takePlan, if_neg (by rwa [Bool.and_eq_true])]

/-- R28: a STEP in another run state, or with the session SHUT, is refused. -/
theorem State.takeStep_refused (u : State) (x : StepPayload)
    (h : ¬(u.coord.run.takesPlan = true ∧ u.plan.sessionOpen = true)) : u.takeStep x = u.refuseStep := by
  rw [State.takeStep, if_neg (by rwa [Bool.and_eq_true])]

/-- R29: a STEP that is not refused. -/
theorem State.takeStep_admitted (u : State) (x : StepPayload) (hr : u.coord.run.takesPlan = true)
    (ho : u.plan.sessionOpen = true) : u.takeStep x = u.admitStep x := by
  rw [State.takeStep, hr, ho]
  rfl

/-- R29: the cursor has left the window. -/
theorem State.admitStep_outside (u : State) (x : StepPayload) (h : u.plan.windowLast < u.plan.cursor) :
    u.admitStep x = u.overrunWindow :=
  if_neg fun hc => Nat.not_le_of_lt h hc.2

/-! ## The STEP that fills a slot (R29, R30, R36, R103) -/

/-- R30: the slot that a cursor within the window names. -/
theorem slotAtCursor_stepNumber (k : StepIx) : slotAtCursor (stepNumber k) = some k := by
  simp [slotAtCursor, stepNumber]

/-- R29: within the window the slot of the cursor is filled. -/
theorem State.admitStep_within (u : State) (x : StepPayload) (k : StepIx) (h1 : u.plan.windowFirst ≤ u.plan.cursor)
    (h2 : u.plan.cursor ≤ u.plan.windowLast) (hk : u.plan.cursor = stepNumber k) :
    u.admitStep x = u.fillSlot k (formStepRecord x) := by
  rw [State.admitStep, if_pos ⟨h1, h2⟩, hk, slotAtCursor_stepNumber]

/-- R30: the record in slot k, its result reset and the cursor advanced, before the run state follows L. -/
def State.filled (u : State) (k : StepIx) (r : StepRecord) : State :=
  (u.mapPlan fun p => { p with slots := p.slots.set k (some r), cursor := p.cursor + 1 }).setResult k ResultRecord.blank

theorem State.fillSlot_eq (u : State) (k : StepIx) (r : StepRecord) :
    u.fillSlot k r = (u.filled k r).followLength.unmustered := by
  rw [State.fillSlot, State.endMuster_eq]
  rfl

/-- R36: in CLOSING the run state stays. -/
theorem State.followLength_closing (s : State) (h : s.coord.run = .closing) : s.followLength = s := by
  rw [State.followLength, h]

/-- R36: in IDLE and LOADED the run state follows L. -/
theorem State.followLength_rest (s : State) (h : s.coord.run = .idle ∨ s.coord.run = .loaded) :
    s.followLength = s.toRest := by
  rcases h with h | h <;> rw [State.followLength, h]

/-- R36, R103: the run state by L, beside the end of an enrollment. -/
theorem State.toRest_unmustered (s : State) :
    s.toRest.unmustered =
      { s.unmustered with
        coord := { s.unmustered.coord with run := if s.plan.length = 0 then .idle else .loaded, step := none } } := by
  by_cases hs : s.coord.stage = .none
  · rw [State.unmustered, if_pos (show s.toRest.coord.stage = .none from hs), State.unmustered, if_pos hs]
    rfl
  · rw [State.unmustered, if_neg (show ¬s.toRest.coord.stage = .none from hs), State.unmustered, if_neg hs]
    rfl

/-! ## The step record of a STEP (R31 to R35) -/

theorem stepBody_error (x : StepPayload) (h : x.kind = 1) : stepBody x = .error (errorFields x) := by
  rw [stepBody, h]
  rfl

theorem stepBody_creep (x : StepPayload) (h : x.kind = 2) : stepBody x = .creep (creepFields x) := by
  rw [stepBody, h]
  rfl

theorem stepBody_start (x : StepPayload) (h : x.kind = 3) : stepBody x = .start (startFields x) := by
  rw [stepBody, h]
  rfl

theorem stepBody_unknown (x : StepPayload) (h1 : x.kind ≠ 1) (h2 : x.kind ≠ 2) (h3 : x.kind ≠ 3) :
    stepBody x = .unknown := by
  unfold stepBody
  split
  · exact absurd (BitVec.eq_of_toNat_eq ‹_›) h1
  · exact absurd (BitVec.eq_of_toNat_eq ‹_›) h2
  · exact absurd (BitVec.eq_of_toNat_eq ‹_›) h3
  · rfl

/-- The record formed from a STEP whose kind code names a body. -/
theorem formStepRecord_eq (x : StepPayload) (b : StepBody) (h : stepBody x = b) :
    formStepRecord x =
      { body := b
        valid := bodyValid b && x.loadPoint != 0
        loadPoint := x.loadPoint.toNat
        baseDeadline := baseDeadline x b
        allowance := slotAllowance x b } := by
  rw [formStepRecord, h]

theorem clampNat_cast (lo hi x : Nat) :
    ((clampNat lo hi x : Nat) : Int) = min (hi : Int) (max (lo : Int) (x : Int)) := by
  unfold clampNat
  omega

/-- R32: an ERROR slot is VALID for Cmut 1..1,000,000 and limits in order. -/
theorem bodyValid_error_iff (f : ErrorFields) :
    bodyValid (.error f) = true ↔ 1 ≤ f.cmut ∧ f.cmut ≤ 1_000_000 ∧ f.lower ≤ f.upper := by
  simp [bodyValid, and_assoc]

/-- R31: a slot has a load point other than 0 where it is VALID. -/
theorem valid_and_loadPoint_iff (b : Bool) (p : BitVec 8) : (b && p != 0) = true ↔ b = true ∧ p ≠ 0 := by
  rw [Bool.and_eq_true, bne_iff_ne]

/-- R35: the deadline of a timed slot, whose floor comes last. -/
theorem timedDeadline_cast (x : StepPayload) (d : Nat) :
    ((max ((d + 999) / 1000 + 1) (clampNat 1 3600 x.deadline.toNat) : Nat) : Int) =
      max (((d + 999) / 1_000 + 1 : Nat) : Int) (min 3_600 (max 1 (x.deadline.toNat : Int))) := by
  rw [Nat.cast_max, clampNat_cast]
  rfl

/-! ## The plan length (R36) -/

/-- R36: L is the place of the first EMPTY slot. -/
theorem filledPrefixLength_eq_findIdx (l : List (Option StepRecord)) :
    filledPrefixLength l = l.findIdx Option.isNone := by
  induction l with
  | nil => rfl
  | cons slot rest ih => cases slot <;> simp [filledPrefixLength, List.findIdx_cons, ih]

theorem filledPrefixLength_eq_iff (l : List (Option StepRecord)) (n : Nat) :
    filledPrefixLength l = n ↔
      n ≤ l.length ∧ (∀ i, (h : i < l.length) → i < n → l[i].isSome = true)
        ∧ (∀ i, (h : i < l.length) → i = n → l[i] = none) := by
  rw [filledPrefixLength_eq_findIdx]
  rcases Nat.lt_trichotomy n l.length with hn | rfl | hn
  · rw [List.findIdx_eq hn]
    constructor
    · rintro ⟨hp, hb⟩
      exact ⟨hn.le, fun i h hi => by simpa using hb i hi, fun i h hi => by subst hi; simpa using hp⟩
    · rintro ⟨_, hb, hp⟩
      exact ⟨by simp [hp n hn rfl], fun i hi => by simpa using hb i (hi.trans hn) hi⟩
  · rw [List.findIdx_eq_length, List.forall_mem_iff_forall_getElem]
    constructor
    · intro hall
      exact ⟨le_rfl, fun i h _ => by simpa using hall i h, fun i h hi => absurd hi h.ne⟩
    · rintro ⟨_, hfilled, _⟩ i h
      simpa using hfilled i h h
  · exact iff_of_false (fun h => absurd (h ▸ List.findIdx_le_length) hn.not_ge) (fun h => absurd h.1 hn.not_ge)

/-! ## HOLD (R116, R117) -/

/-- A HOLD of a station, be it a peer's or the own. -/
theorem exec_hold (s u : State) (after : Nat) (source : Position) (k : StepIx)
    (h : s.takesStation after source (.hold k) u) : exec (.hold after source k) s = .next (u.takeHold source k) :=
  s.takeStation_any u after source _ _ h

theorem RunState.triggered_iff (r : RunState) :
    r.triggered = true ↔ r = .measuring ∨ r = .reported ∨ r = .suspended := by
  cases r <;> simp [RunState.triggered]

theorem State.fromMember_iff (s : State) (source : Position) (k : StepIx) :
    s.fromMember source k = true ↔ s.coord.step = some k ∧ memberAt source s.coord.roster := by
  rw [State.fromMember, Bool.and_eq_true, activeAt_iff, beq_iff_eq]

/-- R116, R128: a HOLD from an ACTIVE member in a step that has triggered is weighed. -/
theorem State.takeHold_weighs (s : State) (source : Position) (k : StepIx) (hr : s.coord.run.triggered = true)
    (hm : s.fromMember source k = true) : s.takeHold source k = s.weighHold k := by
  rw [State.takeHold, hr, hm]
  rfl

/-- R128: any other HOLD is ignored. -/
theorem State.takeHold_other (s : State) (source : Position) (k : StepIx)
    (h : ¬(s.coord.run.triggered = true ∧ s.fromMember source k = true)) : s.takeHold source k = s := by
  rw [State.takeHold, if_neg (by rwa [Bool.and_eq_true])]

/-- R116: a HOLD below the allowance of the slot is counted. -/
theorem State.weighHold_below (s : State) (k : StepIx) (r : StepRecord) (hs : s.slot k = some r)
    (h : s.coord.holds < r.allowance) : s.weighHold k = s.countHold r := by
  simp only [State.weighHold, hs, if_pos h]

/-- R116: a HOLD at the allowance of the slot is ignored. -/
theorem State.weighHold_exhausted (s : State) (k : StepIx) (r : StepRecord) (hs : s.slot k = some r)
    (h : r.allowance ≤ s.coord.holds) : s.weighHold k = s := by
  simp only [State.weighHold, hs, if_neg (Nat.not_lt.2 h)]

/-- R116: the state with the HOLD counted, before the deadline moves. -/
def State.holdCounted (s : State) : State :=
  s.mapCoord fun c => { c with holds := c.holds + 1, runHolds := c.runHolds + 1 }

theorem State.countHold_noDeadline (s : State) (r : StepRecord) (hd : s.coord.deadline = none) :
    s.countHold r = s.holdCounted := by
  rw [State.countHold, hd]
  rfl

theorem State.countHold_deadline (s : State) (r : StepRecord) (d : Nat) (hd : s.coord.deadline = some d) :
    s.countHold r = s.holdCounted.changeDeadline (some (d + r.extension * 1_000_000)) := by
  rw [State.countHold, hd]
  rfl

theorem OutQueue.lapsePending_eq_any (q : OutQueue) (k : StepIx) (p : LapsePhase) :
    q.lapsePending k p = q.lapse.any fun e => e.frame == { step := k, phase := p } := by
  unfold OutQueue.lapsePending
  cases q.lapse <;> rfl

/-- R52, R117: the deadline of a step in hand moved to an instant not later than the present: a pending LAPSE stays. -/
theorem State.changeDeadline_reached (s : State) (k : StepIx) (d : Nat) (hk : s.coord.step = some k)
    (hd : d ≤ s.now) :
    s.changeDeadline (some d) =
      { s with
        gate := { s.gate with holdLatch := false }
        line := { s.line with queue := { s.line.queue with hold := none } }
        coord := { s.coord with deadline := some d, expired := s.line.queue.lapsePending k .measure } } := by
  have hr : s.reached (some d) = true := decide_eq_true hd
  have hs : s.settleLapse (some d) = s := by simp only [State.settleLapse, hk, hr, if_true]
  have he : s.expiryAfterChange (some d) = s.line.queue.lapsePending k .measure := by
    rw [State.expiryAfterChange, hr, Bool.and_true, State.measureLapsePending, hk]
  rw [State.changeDeadline, hs, he]
  rfl

end Sys2Proof.Machine

open Sys2Proof Sys2Proof.Machine

/-- Settles O33: the slot of the cursor is filled, and the run state follows L outside CLOSING. -/
theorem admittedStepFillsSlot : Obligations.AdmittedStepFillsSlot := by
  unfold Obligations.AdmittedStepFillsSlot
  intro after sel x s u v k h hrun hopen h1 h2 hk hv
  have hfill : exec (.step after sel x) s = .next (u.filled k (formStepRecord x)).followLength.unmustered := by
    rw [exec_step_matching s u after sel x h, u.takeStep_admitted x (RunState.takesPlan_of _ hrun) hopen,
      u.admitStep_within x k h1 h2 hk, State.fillSlot_eq]
  have hfilled : u.filled k (formStepRecord x) = v := hv.symm
  rw [hfill, hfilled]
  have hvrun : v.coord.run = u.coord.run := by rw [hv]
  refine ⟨fun hc => ?_, fun hr => ?_⟩
  · rw [v.followLength_closing (hvrun.trans hc)]
  · rw [v.followLength_rest (by rwa [hvrun]), v.toRest_unmustered]

/-- Settles O34: an ignored PLAN, a refused STEP, and a STEP with the cursor past the window. -/
theorem refusedPlanTrafficSetsFlags : Obligations.RefusedPlanTrafficSetsFlags := by
  unfold Obligations.RefusedPlanTrafficSetsFlags
  refine ⟨fun after sel x s u h hno => ?_, fun after sel x s u h => ⟨fun hno => ?_, fun hrun hopen hpast => ?_⟩⟩
  · rw [exec_plan_matching s u after sel x h,
      u.takePlan_ignored x (by rwa [RunState.takesPlan_iff, planContentGood_iff])]
    rfl
  · have hrefused : ¬(u.coord.run.takesPlan = true ∧ u.plan.sessionOpen = true) := by
      rw [RunState.takesPlan_iff]
      rintro ⟨hrun, hopen⟩
      rcases hno with hno | hshut
      · exact hno hrun
      · exact Bool.noConfusion (hshut.symm.trans hopen)
    rw [exec_step_matching s u after sel x h, u.takeStep_refused x hrefused]
    rfl
  · rw [exec_step_matching s u after sel x h, u.takeStep_admitted x (RunState.takesPlan_of _ hrun) hopen,
      u.admitStep_outside x (by omega)]
    rfl

/-- Settles O47: the HOLD is weighed against the allowance, and a deadline that it moves lies ahead or does not. -/
theorem holdMovesDeadline : Obligations.HoldMovesDeadline := by
  unfold Obligations.HoldMovesDeadline
  intro after source k s u v h hv
  have hcounted : u.holdCounted = v := hv.symm
  rw [exec_hold s u after source k h]
  refine ⟨fun r hrun hk hm hr => ?_, fun hno => ?_⟩
  · rw [u.takeHold_weighs source k ((RunState.triggered_iff _).2 hrun) ((u.fromMember_iff source k).2 ⟨hk, hm⟩)]
    have hkc : u.holdCounted.coord.step = some k := hk
    refine ⟨fun hlt hd => ?_, fun d new lapsed hlt hd hnew hlapsed => ?_, fun hle => ?_⟩
    · rw [u.weighHold_below k r hr hlt, u.countHold_noDeadline r hd, hcounted]
    · have hmoved : d + r.extension * 1_000_000 = new := by
        rw [hnew, StepRecord.extension]
        cases r.body <;> simp
      rw [u.weighHold_below k r hr hlt, u.countHold_deadline r d hd, hmoved, hlapsed,
        ← OutQueue.lapsePending_eq_any, ← hcounted]
      refine ⟨fun hahead => ?_, fun hpast => ?_⟩
      · rw [u.holdCounted.changeDeadline_later k new hkc hahead]
        rfl
      · rw [u.holdCounted.changeDeadline_reached k new hkc hpast]
        rfl
    · rw [u.weighHold_exhausted k r hr hle]
  · have hother : ¬(u.coord.run.triggered = true ∧ u.fromMember source k = true) := by
      rw [RunState.triggered_iff, State.fromMember_iff]
      rintro ⟨hrun, hk, hm⟩
      rcases hno with hno | hno | hno
      · exact hno hrun
      · exact hno hk
      · exact hno hm
    rw [u.takeHold_other source k hother]

/-- Settles O54: the record by the body that the kind code names; the length by the place of the first EMPTY slot. -/
theorem stepRecordIsFormedFromFrame : Obligations.StepRecordIsFormedFromFrame := by
  unfold Obligations.StepRecordIsFormedFromFrame
  refine ⟨?_, fun p l => ?_⟩
  · rintro x _ _ _ _ _ rfl rfl rfl rfl rfl
    refine ⟨rfl, fun hk => ?_, fun hk => ?_, fun hk => ?_, fun h1 h2 h3 => ?_⟩
    · rw [formStepRecord_eq x _ (stepBody_error x hk)]
      refine ⟨rfl, rfl, clampNat_cast _ _ _, ?_⟩
      rw [valid_and_loadPoint_iff, bodyValid_error_iff, and_assoc, and_assoc]
      exact Iff.rfl
    · rw [formStepRecord_eq x _ (stepBody_creep x hk)]
      exact ⟨rfl, rfl, timedDeadline_cast x _, valid_and_loadPoint_iff _ _ |>.trans (and_iff_right rfl)⟩
    · rw [formStepRecord_eq x _ (stepBody_start x hk)]
      exact ⟨rfl, rfl, timedDeadline_cast x _, valid_and_loadPoint_iff _ _ |>.trans (and_iff_right rfl)⟩
    · rw [formStepRecord_eq x _ (stepBody_unknown x h1 h2 h3)]
      exact ⟨rfl, rfl, clampNat_cast _ _ _, rfl⟩
  · rw [PlanStore.length, filledPrefixLength_eq_iff]
    simp only [Vector.length_toList, Vector.getElem_toList, Fin.forall_iff, Fin.getElem_fin]

end

section
/-! The invariants together are not kept by every step (O60). -/

namespace Sys2Proof.Machine

/-! ## An enrollment from CLOSING with no run verdict (R97, R130)

`State.verdictSafe` asks for a run verdict in CLOSING and CLOSED, but not of an ENROLLED station whose home state is
CLOSING. A station that holds none meets them all, and its return home breaks them. -/

/-- A station enrolled from CLOSING that holds no run verdict, its muster window running. -/
def State.enrolledWithoutVerdict : State :=
  { State.reset with
    plan := { State.reset.plan with
      number := 7, fields := some { cref := 1_000, edge := .rising, width := 5, gather := 30 }, cursor := 2
      sessionOpen := true
      slots := State.reset.plan.slots.set 0 (some
        { body := .creep { duration := 1_000, threshold := 1 }, valid := true, loadPoint := 4, baseDeadline := 60,
          allowance := 0 }) }
    power := { State.reset.power with state := .awake, clamp := .closed, hdpw := true }
    coord := { State.reset.coord with
      run := .enrolled, home := some .closing, verdict := none, windowEnd := some 5_000_000
      roster := [{ position := 1, standing := .active, phase := .waiting }] }
    pending := [.musterWindowExpiry] }

theorem State.enrolledWithoutVerdict_safe : State.enrolledWithoutVerdict.safe := by
  refine ⟨?_, ?_, ?_, ?_, ?_, ?_, ?_, ?_, ?_, ?_, ?_, ?_, ?_⟩ <;> decide

/-- R100: at the end of the window the station returns to CLOSING, with no run verdict. -/
theorem State.enrolledWithoutVerdict_step :
    ∃ t, step State.enrolledWithoutVerdict = .next t ∧ t.coord.run = .closing ∧ t.coord.verdict = none :=
  ⟨_, rfl, by decide, by decide⟩

/-- R130, R136: a CLOSING station with no run verdict is not safe. -/
theorem State.not_safe_of_closing (s : State) (hr : s.coord.run = .closing) (hv : s.coord.verdict = none) :
    ¬s.safe := by
  rintro ⟨_, _, _, _, _, _, _, _, _, _, ⟨hheld, _⟩, _, _⟩
  simpa [hv] using hheld (.inl hr)

end Sys2Proof.Machine

open Sys2Proof Sys2Proof.Machine

/-- Refutes O60: of an ENROLLED station with home state CLOSING the invariants do not ask for the run verdict that they
ask for in CLOSING, to which the end of the muster window returns it. -/
theorem not_stepKeepsAllInvariants : ¬ Obligations.StepKeepsAllInvariants := by
  unfold Obligations.StepKeepsAllInvariants
  intro h
  obtain ⟨t, hstep, hrun, hverdict⟩ := State.enrolledWithoutVerdict_step
  exact t.not_safe_of_closing hrun hverdict (h _ t State.enrolledWithoutVerdict_safe hstep)

end

section
/-! The obligations on the error gate and its arithmetic (O13, O14, O51, O52). -/

namespace Sys2Proof.Machine

/-! ## The error and its verdict (R45 to R48) -/

/-- R46: a magnitude with a given quotient and remainder, rounded half up. -/
theorem roundMagnitude_of_divMod (q d r : Nat) (hr : r < d) :
    roundMagnitude (q * d + r) d = if d ≤ 2 * r then q + 1 else q := by
  obtain ⟨hq, hm⟩ := (Nat.div_mod_unique (Nat.zero_lt_of_lt hr)).2 ⟨show r + d * q = q * d + r by ring, hr⟩
  rw [roundMagnitude, hq, hm]

/-- R46: rounding half up is division of twice the magnitude, raised by the divisor, by twice the divisor. -/
theorem roundMagnitude_eq (m d : Nat) (hd : 0 < d) : roundMagnitude m d = (2 * m + d) / (2 * d) := by
  have hm : d * (m / d) + m % d = m := Nat.div_add_mod m d
  have hr : m % d < d := Nat.mod_lt m hd
  have hlo : m / d * (2 * d) = 2 * (d * (m / d)) := by ring
  have hmid : (m / d + 1) * (2 * d) = 2 * (d * (m / d)) + 2 * d := by ring
  have hhi : (m / d + 1 + 1) * (2 * d) = 2 * (d * (m / d)) + 4 * d := by ring
  unfold roundMagnitude
  split
  · exact (Nat.div_eq_of_lt_le (by omega) (by omega)).symm
  · exact (Nat.div_eq_of_lt_le (by omega) (by omega)).symm

/-- R46: the sign of the numerator on a rounded magnitude. -/
theorem roundedError_eq (n cref r cmut : Nat) :
    roundedError n cref r cmut =
      if (n * cref : Int) - (r * cmut : Int) < 0 then
        -(roundMagnitude (1_000_000 * ((n * cref : Int) - (r * cmut : Int)).natAbs) (r * cmut) : Int)
      else (roundMagnitude (1_000_000 * ((n * cref : Int) - (r * cmut : Int)).natAbs) (r * cmut) : Int) := rfl

/-- R47: an error beyond ±999,999 ppm is clamped. -/
theorem errorClamped_iff (e : Int) : errorClamped e = true ↔ 999_999 < e.natAbs := decide_eq_true_iff

theorem limitError_within (e : Int) (h : e.natAbs ≤ 999_999) : limitError e = e := by
  simp only [limitError, clampLimit, Config.errorLimit]
  omega

/-- R47: a clamped error keeps its sign. -/
theorem limitError_beyond (e : Int) (h : 999_999 < e.natAbs) : limitError e = if e < 0 then -999_999 else 999_999 := by
  simp only [limitError, clampLimit, Config.errorLimit]
  split <;> omega

/-- R48, R47: an error beyond ±999,999 ppm fails with the clamped mark. -/
theorem gateOutcome_beyond (x : GateSettings) (n r : Nat) (hr : r ≠ 0)
    (h : 999_999 < (roundedError n x.cref r x.cmut).natAbs) :
    gateOutcome x n r false =
      { error := some (if roundedError n x.cref r x.cmut < 0 then -999_999 else 999_999), clamped := true
        verdict := .fail } := by
  have hc := (errorClamped_iff _).2 h
  simp only [gateOutcome, if_neg hr, Bool.false_eq_true, if_false, judgeError, hc, if_true, limitError_beyond _ h]

/-- R48: an error within ±999,999 ppm is judged by the limits of the slot. -/
theorem gateOutcome_within (x : GateSettings) (n r : Nat) (hr : r ≠ 0)
    (h : (roundedError n x.cref r x.cmut).natAbs ≤ 999_999) :
    gateOutcome x n r false =
      { error := some (roundedError n x.cref r x.cmut), clamped := false
        verdict :=
          if x.lower ≤ roundedError n x.cref r x.cmut ∧ roundedError n x.cref r x.cmut ≤ x.upper then .pass
          else .fail } := by
  have hc : errorClamped (roundedError n x.cref r x.cmut) = false :=
    Bool.eq_false_iff.2 fun hc => absurd ((errorClamped_iff _).1 hc) (Nat.not_lt.2 h)
  simp only [gateOutcome, if_neg hr, Bool.false_eq_true, if_false, judgeError, hc, limitError_within _ h]

/-- R45: the products of the greatest operands. -/
theorem errorProducts_bounded (n cref r cmut : Nat) (hn : n ≤ 65_535) (hcref : cref ≤ 2_000_000_000)
    (hr : r ≤ 4_294_967_294) (hcmut : cmut ≤ 1_000_000) :
    n * cref < 2 ^ 47 ∧ r * cmut < 2 ^ 52 ∧ 1_000_000 * ((n * cref : Int) - (r * cmut : Int)).natAbs < 2 ^ 72 := by
  have hp : n * cref ≤ 65_535 * 2_000_000_000 := Nat.mul_le_mul hn hcref
  have hq : r * cmut ≤ 4_294_967_294 * 1_000_000 := Nat.mul_le_mul hr hcmut
  have hd : ((n * cref : Int) - (r * cmut : Int)).natAbs ≤ max (n * cref) (r * cmut) := by
    rw [← Nat.cast_mul, ← Nat.cast_mul]
    omega
  omega

/-! ## A pulse in OPEN (R42, R43, R49 to R51) -/

/-- R9, R42: a pulse of an open gate is counted. -/
theorem exec_pulse_opened (s u : State) (stamp : Nat) (k : StepIx) (x : GateSettings) (n : Nat)
    (h : s.meets .pulseAccepted u) (hc : u.front.candidate = some stamp) (hl : u.line.link ≠ .strapFault)
    (ha : u.power.state = .awake) (hg : u.gate.state = .opened) (hk : u.gate.step = some k)
    (hx : u.gate.settings = some x) (hn : u.gate.n = some n) :
    exec .pulseAccepted s = .next ((u.afterPulse stamp).countGate k x n stamp (u.formedPeriod stamp)) := by
  have hgate : (u.afterPulse stamp).gate = u.gate := rfl
  have hcons : (u.afterPulse stamp).consumer = .errorGate :=
    (u.afterPulse stamp).consumer_errorGate hl ha (by rw [hgate, hg]; rfl)
  rw [exec_pulseAccepted s u stamp h hc, State.routePulse, hcons]
  simp only [State.gatePulse, hgate, hg, hk, hx, hn]

/-- R42: a pulse below the gate length is counted, and the prediction follows. -/
theorem State.countGate_below (s : State) (k : StepIx) (x : GateSettings) (n stamp : Nat) (period : Option Nat)
    (h : n + 1 < x.gate) :
    s.countGate k x n stamp period =
      (s.mapGate fun g => { g with n := some (n + 1) }).predictHold k x (n + 1) stamp period :=
  if_neg (Nat.not_le.2 h)

/-- R43: the pulse that brings N to the gate length closes the gate. -/
theorem State.countGate_closes (s : State) (k : StepIx) (x : GateSettings) (n stamp : Nat) (period : Option Nat)
    (h : n + 1 = x.gate) : s.countGate k x n stamp period = s.closeGate k x (n + 1) period :=
  if_pos (Nat.le_of_eq h.symm)

/-- R51: the three conditions of a HOLD. -/
theorem State.holdWanted_iff (s : State) (k : StepIx) (r : StepRecord) (d finish : Nat) (hs : s.slot k = some r)
    (hd : s.coord.deadline = some d) :
    s.holdWanted k finish = true ↔
      d < finish + 1_000_000 ∧ s.coord.holds < r.allowance ∧ s.gate.holdLatch = false := by
  simp only [State.holdWanted, hs, hd, Bool.and_eq_true, Bool.not_eq_true', finishTooLate, decide_eq_true_eq]
  exact and_assoc

/-- R50, R51: the prediction at a pulse that carries a period. -/
theorem State.predictHold_some (s : State) (k : StepIx) (x : GateSettings) (n stamp p : Nat) :
    s.predictHold k x n stamp (some p) =
      if s.holdWanted k ((stamp + (x.gate - n) * p + 999) / 1000 * 1000) = true then s.askHold k else s := rfl

/-- R51: HOLD asked for by a station that takes part in the line. -/
theorem State.askHold_onLine (s : State) (k : StepIx) (hl : s.line.link ≠ .strapFault) :
    s.askHold k =
      { s with
        gate := { s.gate with holdLatch := true }
        line := { s.line with
          queue := { s.line.queue with hold := some { frame := k, fails := 0, offered := false } } } } := by
  rw [State.askHold, State.queueHold, s.request_onLine _ hl]
  rfl

/-- R43, R49, R120: a gate closed by a station that takes part in the line. -/
theorem State.closeGate_onLine (s : State) (k : StepIx) (x : GateSettings) (n : Nat) (period : Option Nat)
    (o : GateOutcome) (hl : s.line.link ≠ .strapFault)
    (ho : gateOutcome x n s.front.counter.value s.front.counter.overrange = o) :
    s.closeGate k x n period =
      { s with
        front := { s.front with counter := { s.front.counter with counting := false } }
        gate := { s.gate with
          state := .closed, n := some n, r := some s.front.counter.value, overrange := s.front.counter.overrange
          error := o.error, clamped := o.clamped, verdict := some o.verdict }
        coord := { s.coord with
          results := s.coord.results.set k
            { s.result k with
              verdict := o.verdict, mark := .none
              values := closingValues o n s.front.counter.value period } }
        line := { s.line with
          queue := { s.line.queue with
            done := some { frame := { step := k, verdict := o.verdict, attempt := (s.result k).attempt,
                                      error := o.error },
                           fails := 0, offered := false }
            hold := none } } } := by
  simp only [State.closeGate, ho]
  rw [State.writeResult_onLine _ _ _ _ (by exact hl)]
  rfl

end Sys2Proof.Machine

open Sys2Proof Sys2Proof.Machine

/-- Settles O51: the first row that applies, with the rounded error of R46 as division by twice the divisor. -/
theorem gateOutcomeFollowsArithmetic : Obligations.GateOutcomeFollowsArithmetic := by
  unfold Obligations.GateOutcomeFollowsArithmetic
  intro x n r saturated num e m hnum hm he
  refine ⟨fun hr => if_pos hr, fun hr hs => ?_, fun hr hs hc => ?_⟩
  · rw [hs]
    exact if_neg hr
  · have hround : roundedError n x.cref r x.cmut = e := by
      rw [roundedError_eq, ← hnum, roundMagnitude_eq _ _ (Nat.mul_pos (Nat.pos_of_ne_zero hr) hc), ← hm, ← he]
    have habs : e.natAbs = m := by
      rw [he]
      split <;> simp
    subst hs
    refine ⟨fun hlt => ?_, fun hle hin => ?_, fun hle hout => ?_, fun hn hcref hr' hcmut => ?_⟩
    · have hsign : e < 0 ↔ num < 0 := by
        rw [he]
        split <;> omega
      rw [gateOutcome_beyond x n r hr (by omega), hround]
      simp only [hsign]
    · rw [gateOutcome_within x n r hr (by omega), hround, if_pos hin]
    · rw [gateOutcome_within x n r hr (by omega), hround, if_neg hout]
    · rw [hnum]
      exact errorProducts_bounded n x.cref r x.cmut hn hcref hr' hcmut

/-- Settles O52: the magnitude has the quotient and the remainder given, and the numerator the sign. -/
theorem errorRoundsHalfAwayFromZero : Obligations.ErrorRoundsHalfAwayFromZero := by
  unfold Obligations.ErrorRoundsHalfAwayFromZero
  intro n cref r cmut quotient remainder hpos hm hrem
  have hsub : (n * cref : Int) - (r * cmut : Int) = ((n * cref : Nat) : Int) - ((r * cmut : Nat) : Int) := by
    push_cast
    rfl
  rw [roundedError_eq, hm, roundMagnitude_of_divMod _ _ _ hrem]
  refine ⟨fun h => ?_, fun h => ?_, fun h => ?_⟩
  · rw [if_neg (by omega)]
    split <;> rfl
  · rw [if_pos (by omega)]
    split <;> rfl
  · have hzero : quotient * (r * cmut) + remainder = 0 := by
      rw [← hm]
      omega
    have hq : quotient = 0 :=
      (Nat.mul_eq_zero.1 (Nat.eq_zero_of_add_eq_zero_right hzero)).resolve_right (Nat.ne_of_gt hpos)
    rw [if_neg (by omega), if_neg (by omega), hq]
    rfl

/-- Settles O13: the pulse is counted, and its prediction asks for a HOLD or not. -/
theorem countedPulsePredictsAndAsksForHold : Obligations.CountedPulsePredictsAndAsksForHold := by
  unfold Obligations.CountedPulsePredictsAndAsksForHold
  intro s u stamp k x n h hc hl ha hg hk hx hn hlt
  rw [exec_pulse_opened s u stamp k x n h hc hl ha hg hk hx hn, State.countGate_below _ _ _ _ _ _ hlt]
  refine ⟨fun hp => ?_, fun p d finish r hp hs hd hf => ?_⟩
  · rw [hp]
    rfl
  · have hw := ((u.afterPulse stamp).mapGate fun g => { g with n := some (n + 1) }).holdWanted_iff k r d finish hs hd
    rw [hp, State.predictHold_some, ← hf]
    refine ⟨fun hyes => ?_, fun hno => ?_⟩
    · rw [if_pos (hw.2 hyes), State.askHold_onLine _ _ (by exact hl)]
      rfl
    · rw [if_neg fun hy => hno (hw.1 hy)]
      rfl

/-- Settles O14: the pulse closes the gate, with the result and the DONE of its outcome. -/
theorem closingPulseWritesResult : Obligations.ClosingPulseWritesResult := by
  unfold Obligations.ClosingPulseWritesResult
  intro s u stamp k x n o r h hc hl ha hg hk hx hn hgate ho hr
  rw [exec_pulse_opened s u stamp k x n h hc hl ha hg hk hx hn, State.countGate_closes _ _ _ _ _ _ hgate,
    (u.afterPulse stamp).closeGate_onLine k x (n + 1) _ o hl ho.symm, hr]
  rfl

end

section
/-! The obligation on the common start (O19). -/

namespace Sys2Proof.Machine

/-! ## The common start (R40, R62, R114, R115) -/

/-- R14: the state with a given reference seen flag. -/
def State.sees (u : State) (seen : Bool) : State := { u with front := { u.front with refSeen := seen } }

/-- R12, R14: a reference edge at a counter that is STOPPED. -/
theorem State.countEdge_stopped (u : State) (h : u.front.counter.counting = false) :
    u.countEdge = u.sees (if u.power.state = .waking then true else u.front.refSeen) := by
  have hs : (u.front.refSeen || u.power.state == .waking) =
      if u.power.state = .waking then true else u.front.refSeen := by
    by_cases hw : u.power.state = .waking <;> simp [hw]
  simp only [State.countEdge, State.mapFront, State.sees, u.front.counter.edge_still (.inl h), hs]

/-- R13, R114: the edge that answers a request is the common start, at its own time stamp. -/
theorem exec_referenceEdge_answers (s u : State) (after : Nat) (h : s.reaches after u) (hn : u.front.nextEdge = true)
    (hc : u.front.counter.counting = false) :
    exec (.referenceEdge after) s =
      .next ((u.sees (if u.power.state = .waking then true else u.front.refSeen)).commonStart u.now false) := by
  rw [show exec (.referenceEdge after) s = .next u.referenceEdge from s.atEvent_reaches u after _ h,
    State.referenceEdge, if_pos hn, u.countEdge_stopped hc]

/-- R114: the end of the reference wait is the common start, reference-quiet. -/
theorem exec_referenceWaitExpiry (s u : State) (h : s.meets .referenceWaitExpiry u) :
    exec .referenceWaitExpiry s = .next (u.commonStart u.now true) := by
  have hw : u.coord.waitEnd = some u.now := s.meets_due u _ h
  rw [show exec .referenceWaitExpiry s = .next u.expireWait from s.atLocal_meets u _ h, State.expireWait, hw]

/-- R114: the common start of the step in hand. -/
theorem State.commonStart_eq (s : State) (k : StepIx) (r : StepRecord) (t0 : Nat) (quiet : Bool)
    (hk : s.coord.step = some k) (hr : s.slot k = some r) :
    s.commonStart t0 quiet = s.stopReferenceWait.startStep k r t0 quiet := by
  simp only [State.commonStart, hk, hr]

/-- R114: a station in MEASURING sets its deadline and starts its unit. -/
theorem State.startStep_measuring (s : State) (k : StepIx) (r : StepRecord) (t0 : Nat) (quiet : Bool)
    (h : s.coord.run = .measuring) :
    s.startStep k r t0 quiet =
      (s.changeDeadline (some (s.startDeadline r t0))).startMeasurement k r t0 quiet := by
  simp only [State.startStep, h]

/-- R114: a REPORTED station sets its deadline alone. -/
theorem State.startStep_reported (s : State) (k : StepIx) (r : StepRecord) (t0 : Nat) (quiet : Bool)
    (h : s.coord.run = .reported) :
    s.startStep k r t0 quiet = s.changeDeadline (some (s.startDeadline r t0)) := by
  simp only [State.startStep, h]

/-- R13, R115, R117: the state once the reference wait is over and the deadline of step k is set. -/
def State.deadlineSet (u : State) (k : StepIx) (d : Nat) : State :=
  { u with
    front := { u.front with nextEdge := false }
    gate := { u.gate with holdLatch := false }
    line := { u.line with
      queue := { u.line.queue with
        hold := none, lapse := if u.line.queue.lapsePending k .measure then none else u.line.queue.lapse } }
    coord := { u.coord with waitEnd := none, deadline := some d, expired := false } }

/-- R115: a base deadline of 1 s or more lies ahead of t0. -/
theorem State.stopReferenceWait_changeDeadline (s : State) (k : StepIx) (d : Nat) (hk : s.coord.step = some k)
    (hd : s.now < d) : s.stopReferenceWait.changeDeadline (some d) = s.deadlineSet k d :=
  s.stopReferenceWait.changeDeadline_later k d hk hd

/-- R114: the common start of a station in MEASURING. -/
theorem State.commonStart_measuring (s : State) (k : StepIx) (r : StepRecord) (d t0 : Nat) (quiet : Bool)
    (hk : s.coord.step = some k) (hr : s.slot k = some r) (hrun : s.coord.run = .measuring)
    (hd : s.startDeadline r t0 = d) (hlater : s.now < d) :
    s.commonStart t0 quiet = (s.deadlineSet k d).startMeasurement k r t0 quiet := by
  rw [s.commonStart_eq k r t0 quiet hk hr, s.stopReferenceWait.startStep_measuring k r t0 quiet hrun,
    show s.stopReferenceWait.startDeadline r t0 = d from hd, s.stopReferenceWait_changeDeadline k d hk hlater]

/-- R114: the common start of a REPORTED station. -/
theorem State.commonStart_reported (s : State) (k : StepIx) (r : StepRecord) (d t0 : Nat) (quiet : Bool)
    (hk : s.coord.step = some k) (hr : s.slot k = some r) (hrun : s.coord.run = .reported)
    (hd : s.startDeadline r t0 = d) (hlater : s.now < d) :
    s.commonStart t0 quiet = s.deadlineSet k d := by
  rw [s.commonStart_eq k r t0 quiet hk hr, s.stopReferenceWait.startStep_reported k r t0 quiet hrun,
    show s.stopReferenceWait.startDeadline r t0 = d from hd, s.stopReferenceWait_changeDeadline k d hk hlater]

/-- R40, R114: the armed gate starts. -/
theorem State.startMeasurement_gate (s : State) (k : StepIx) (r : StepRecord) (t0 : Nat) (quiet : Bool)
    (hg : s.gate.state = .armed) (ht : s.timed.state = .idle) (hv : r.valid = true) :
    s.startMeasurement k r t0 quiet =
      { s with
        front := { s.front with lastPulse := none, lastPeriod := none }
        gate := { s.gate with state := .waitingOpen, holdLatch := false }
        coord := { s.coord with results := s.coord.results.set k ((s.result k).started quiet) } } := by
  have hg' : (s.setResult k ((s.result k).started quiet)).gate.state = .armed := hg
  simp only [State.startMeasurement, State.startGate, if_pos hg', State.startTimed]
  rw [if_neg (by simp [ht]), State.reportInvalid, if_pos hv]
  rfl

/-- R62, R114: the armed timed unit starts. -/
theorem State.startMeasurement_timed (s : State) (k : StepIx) (r : StepRecord) (t0 : Nat) (quiet : Bool)
    (x : TimedSettings) (hg : s.gate.state = .idle) (ht : s.timed.state = .armed) (hx : s.timed.settings = some x)
    (hv : r.valid = true) :
    s.startMeasurement k r t0 quiet =
      { s with
        timed := { s.timed with
          state := .counting, startTime := some t0, count := some 0, durationEnd := some (t0 + x.duration * 1000) }
        coord := { s.coord with results := s.coord.results.set k ((s.result k).started quiet) } } := by
  simp only [State.startMeasurement, State.startGate]
  rw [if_neg (by simp [hg]), State.startTimed, if_pos (by exact ht), State.reportInvalid, if_pos hv]
  simp only [State.mapTimed, State.setResult_timed, hx]
  rfl

/-- R114: an INVALID slot is reported at once. -/
theorem State.startMeasurement_invalid (s : State) (k : StepIx) (r : StepRecord) (t0 : Nat) (quiet : Bool)
    (hl : s.line.link ≠ .strapFault) (hg : s.gate.state = .idle) (ht : s.timed.state = .idle) (hv : r.valid = false) :
    s.startMeasurement k r t0 quiet =
      { s with
        coord := { s.coord with
          results := s.coord.results.set k
            { (s.result k).started quiet with verdict := .invalid, values := noValues, mark := .none } }
        line := { s.line with
          queue := { s.line.queue with
            done := some { frame := { step := k, verdict := .invalid, attempt := ((s.result k).started quiet).attempt,
                                      error := none },
                           fails := 0, offered := false } } } } := by
  simp only [State.startMeasurement, State.startGate]
  rw [if_neg (by simp [hg]), State.startTimed, if_neg (by simp [ht]), State.reportInvalid, if_neg (by simp [hv]),
    State.writeResult_onLine _ _ _ _ (by exact hl)]
  simp only [State.setResult_coord, Fin.getElem_fin, Vector.getElem_set_self, Vector.set_set]
  rfl

end Sys2Proof.Machine

open Sys2Proof Sys2Proof.Machine

/-- Settles O19: both events are the common start at the present instant; then by the unit that the step has armed. -/
theorem commonStartSetsDeadlineAndUnits : Obligations.CommonStartSetsDeadlineAndUnits := by
  unfold Obligations.CommonStartSetsDeadlineAndUnits
  intro c s u quiet k r d started q seen hc hl hk hr hbase hd hstarted hq
  have hexec : exec c s = .next ((u.sees seen).commonStart u.now quiet) := by
    rcases hc with ⟨after, rfl, h, hn, rfl, hcount, rfl⟩ | ⟨rfl, h, rfl, rfl⟩
    · exact exec_referenceEdge_answers s u after h hn hcount
    · exact exec_referenceWaitExpiry s u h
  have hlater : u.now < d := by omega
  subst hstarted hq
  rw [hexec]
  refine ⟨fun hrun hg ht hv => ?_, fun x hrun hg ht hx hv => ?_, fun hrun hg ht hv => ?_, fun hrun => ?_⟩
  · rw [(u.sees seen).commonStart_measuring k r d _ quiet hk hr hrun hd.symm hlater,
      ((u.sees seen).deadlineSet k d).startMeasurement_gate k r _ quiet hg ht hv]
    rfl
  · rw [(u.sees seen).commonStart_measuring k r d _ quiet hk hr hrun hd.symm hlater,
      ((u.sees seen).deadlineSet k d).startMeasurement_timed k r _ quiet x hg ht hx hv]
    rfl
  · rw [(u.sees seen).commonStart_measuring k r d _ quiet hk hr hrun hd.symm hlater,
      ((u.sees seen).deadlineSet k d).startMeasurement_invalid k r _ quiet hl hg ht hv]
    rfl
  · rw [(u.sees seen).commonStart_reported k r d _ quiet hk hr hrun hd.symm hlater]
    rfl

end

section
/-! The obligations on the ends of a step and of a run (O25, O37, O44, O50). -/

namespace Sys2Proof.Machine

/-! ## The end of a run by the clamp or by HALT (R57, R58, R73, R131, R132) -/

/-- The four run states of a step in hand. -/
theorem RunState.stepping_iff (r : RunState) :
    r.stepping = true ↔ r = .gathering ∨ r = .measuring ∨ r = .reported ∨ r = .suspended := by
  cases r <;> simp [RunState.stepping, RunState.triggered]

/-- R132: what becomes of the result of step k at a clamp opening. -/
def State.resultAtOpening (s : State) (k : StepIx) : ResultRecord :=
  if s.coord.run = .measuring ∨ s.coord.run = .suspended then s.cutShort k (s.result k) else s.result k

/-- A result record replaced by itself. -/
theorem State.setResult_self (s : State) (k : StepIx) : s.setResult k (s.result k) = s := by
  simp [State.setResult, State.mapCoord, State.result]

theorem State.clampResult_eq (s : State) (k : StepIx) : s.clampResult k = s.setResult k (s.resultAtOpening k) := by
  unfold State.clampResult State.resultAtOpening
  split
  · rename_i h
    rw [if_pos (.inl h), s.endedRecord_eq]
    rfl
  · rename_i h
    rw [if_pos (.inr h), s.endedRecord_eq]
    rfl
  · rename_i hm hs
    rw [if_neg (not_or.2 ⟨hm, hs⟩), s.setResult_self]

/-- R131, R132: a run stopped. -/
theorem State.stopRun_eq (s : State) :
    s.stopRun = { s.stepOver with coord := { s.stepOver.coord with gatherEnd := none } } := rfl

/-- R157: a clamp opening in a run ends the run. -/
theorem State.coordinatorAtOpening_run (s : State) (k : StepIx) (h : s.coord.run.stepping = true)
    (hk : s.coord.step = some k) : s.coordinatorAtOpening = s.clampEndsRun k := by
  have he : s.runEndedByClamp = s.clampEndsRun k := by simp only [State.runEndedByClamp, hk]
  unfold State.coordinatorAtOpening
  rcases (RunState.stepping_iff _).1 h with hr | hr | hr | hr <;> simp only [hr, he]

/-- R103, R106, R131: a HALT that matches in a run. -/
theorem State.haltHere_run (s : State) (k : StepIx) (h : s.coord.run.stepping = true) (hk : s.coord.step = some k) :
    s.haltHere = s.haltRun k := by
  unfold State.haltHere
  rcases (RunState.stepping_iff _).1 h with hr | hr | hr | hr <;> simp only [hr, hk]

/-- R103: a HALT that matches in ENROLLED. -/
theorem State.haltHere_enrolled (s : State) (h : s.coord.run = .enrolled) : s.haltHere = s.toHome.endEnrollment := by
  simp only [State.haltHere, h]

/-- R103: a HALT that matches in any other run state. -/
theorem State.haltHere_rest (s : State)
    (h : s.coord.run = .idle ∨ s.coord.run = .loaded ∨ s.coord.run = .closing ∨ s.coord.run = .closed) :
    s.haltHere = s.endMuster := by
  unfold State.haltHere
  rcases h with hr | hr | hr | hr <;> simp only [hr]

/-! ## The end of a step before its own DONE (R53, R69, R124, R127) -/

/-- R123: the frames of the step go at its completion, so that a DONE withdrawn before it makes no difference. -/
theorem State.completes_withdrawDone (s : State) (f : List Member → List Member) (k : StepIx) :
    (s.withdrawDone.mapRoster f).completes k = (s.mapRoster f).completes k := rfl

/-- R124: a LAPSE of the measure phase from an ACTIVE member in a step that has triggered. -/
theorem State.takeLapseMeasure_completes (s : State) (source : Position) (k : StepIx) (hl : s.line.link ≠ .strapFault)
    (hr : s.coord.run.triggered = true) (hm : s.fromMember source k = true) :
    s.takeLapseMeasure source k =
      ((s.setResult k (if s.coord.run = .reported then s.result k
        else s.cutShort k (s.result k).lateDone)).mapRoster (reportRest .incomplete)).completes k := by
  have hlapse : ((s.lapseResult k).mapRoster (reportRest .incomplete)).line.link ≠ .strapFault := by simpa using hl
  rw [State.takeLapseMeasure, if_pos (by rw [hr, hm]; rfl), State.completeStep_onLine _ _ hlapse]
  unfold State.lapseResult
  split
  · rw [s.setResult_self]
  · rw [s.endedRecord_eq]
    exact State.completes_withdrawDone _ _ k

/-- R128: any other LAPSE of the measure phase is ignored. -/
theorem State.takeLapseMeasure_other (s : State) (source : Position) (k : StepIx)
    (h : ¬(s.coord.run.triggered = true ∧ s.fromMember source k = true)) : s.takeLapseMeasure source k = s := by
  rw [State.takeLapseMeasure, if_neg (by rwa [Bool.and_eq_true])]

/-- R127: the fourth disturbance of a station in MEASURING. -/
theorem State.voidStep_measuring (s : State) (k : StepIx) (hl : s.line.link ≠ .strapFault)
    (hr : s.coord.run = .measuring) :
    s.voidStep k = ((s.setResult k (s.result k).voided).mapRoster (reportRest .void)).completes k := by
  rw [State.voidStep, State.voidResult, if_pos hr, State.completeStep_onLine _ _ (by exact hl)]
  exact State.completes_withdrawDone _ _ k

/-- R127: the fourth disturbance of a REPORTED station. -/
theorem State.voidStep_reported (s : State) (k : StepIx) (hl : s.line.link ≠ .strapFault)
    (hr : s.coord.run = .reported) : s.voidStep k = (s.mapRoster (reportRest .void)).completes k := by
  rw [State.voidStep, State.voidResult, if_neg (by simp [hr]), State.completeStep_onLine _ _ (by exact hl)]

/-- R125: a station in MEASURING is suspended, with its unit and its result voided. -/
theorem State.suspendStep_eq (s : State) (k : StepIx) :
    s.suspendStep k =
      { s with
        front := { s.front with nextEdge := false, counter := { s.front.counter with counting := false } }
        gate := s.gate.voided
        timed := s.timed.voided
        line := { s.line with queue := { s.line.queue with done := none, hold := none } }
        coord := { s.coord with
          run := .suspended, suspension := true, waitEnd := none
          results := s.coord.results.set k ((s.result k).emptied .none) } } := rfl

/-- R110: a DISTURBED sets the source view, and disturbs the step in hand where it has triggered. -/
theorem State.takeDisturbed_step (s : State) (k : StepIx) (hk : s.coord.step = some k)
    (hr : s.coord.run.triggered = true) : s.takeDisturbed = (s.setSource .disturbed).disturbStep k := by
  have hk' : (s.setSource .disturbed).coord.step = some k := hk
  have hr' : (s.setSource .disturbed).coord.run.triggered = true := hr
  simp only [State.takeDisturbed, hk', hr', if_true]

/-- R110: with no step that has triggered, or in a step that is suspended already, the source view alone changes. -/
theorem State.takeDisturbed_view (s : State)
    (h : s.coord.step = none ∨ s.coord.run.triggered = false ∨ s.coord.suspension = true) :
    s.takeDisturbed = s.setSource .disturbed := by
  cases hk : s.coord.step with
  | none =>
    have hk' : (s.setSource .disturbed).coord.step = none := hk
    simp only [State.takeDisturbed, hk']
  | some k =>
    cases hr : s.coord.run.triggered with
    | false =>
      have hk' : (s.setSource .disturbed).coord.step = some k := hk
      have hr' : (s.setSource .disturbed).coord.run.triggered = false := hr
      simp only [State.takeDisturbed, hk', hr', Bool.false_eq_true, if_false]
    | true =>
      have hs : s.coord.suspension = true := by simpa [hk, hr] using h
      rw [s.takeDisturbed_step k hk hr]
      exact if_pos hs

/-- R125: fewer than 3 restarts suspend the step. -/
theorem State.disturbStep_suspends (s : State) (k : StepIx) (hs : s.coord.suspension = false)
    (hr : s.coord.restarts < 3) :
    (s.coord.run = .measuring → s.disturbStep k = s.suspendStep k)
      ∧ (s.coord.run = .reported → s.disturbStep k = s.suspendReported) := by
  have hd : s.disturbStep k = s.suspend k := by
    rw [State.disturbStep, if_neg (by simp [hs])]
    exact if_pos hr
  constructor <;> intro hrun <;> simp only [hd, State.suspend, hrun]

/-- R127: with 3 restarts the step is void. -/
theorem State.disturbStep_voids (s : State) (k : StepIx) (hs : s.coord.suspension = false)
    (hr : 3 ≤ s.coord.restarts) (hrun : s.coord.run = .measuring ∨ s.coord.run = .reported) :
    s.disturbStep k = s.voidStep k := by
  have hd : s.disturbStep k = s.exhaust k := by
    rw [State.disturbStep, if_neg (by simp [hs])]
    exact if_neg (Nat.not_lt.2 hr)
  rcases hrun with hrun | hrun <;> simp only [hd, State.exhaust, hrun]

end Sys2Proof.Machine

open Sys2Proof Sys2Proof.Machine

/-- Settles O25: the run ends with the result of its step, and the station parks. -/
theorem clampOpeningEndsRun : Obligations.ClampOpeningEndsRun := by
  unfold Obligations.ClampOpeningEndsRun
  intro after s u k r h hl ha hrun hk hr
  have hend : (u.setClamp .opened).coordinatorAtOpening = (u.setClamp .opened).clampEndsRun k :=
    (u.setClamp .opened).coordinatorAtOpening_run k ((RunState.stepping_iff _).2 hrun) hk
  have hres : (u.setClamp .opened).resultAtOpening k = r := hr.symm
  rw [exec_clampOpening s u after h hl, State.actOnOpening_awake (u.setClamp .opened) ha,
    State.openAwake_eq _ _ hend (by simp [State.setClamp]) (by simpa [State.setClamp] using hl), State.clampEndsRun,
    State.clampResult_eq, hres, State.stopRun_eq]
  rfl

/-- Settles O37, by the run state. -/
theorem matchingHaltEndsRun : Obligations.MatchingHaltEndsRun := by
  unfold Obligations.MatchingHaltEndsRun
  intro after sel s u h
  rw [show exec (.halt after sel) s = .next u.haltHere from s.takeSelective_matching u after _ sel _ _ h]
  refine ⟨fun k hrun hk => ?_, fun hrun hh => ?_, fun hrun hh => ?_, fun hrun => ?_⟩
  · rw [u.haltHere_run k ((RunState.stepping_iff _).2 hrun) hk, State.haltRun, State.stopRun_eq]
    rfl
  · rw [u.haltHere_enrolled hrun, State.toHome, hh]
    rfl
  · rw [u.haltHere_enrolled hrun, State.toHome, hh]
    rfl
  · rw [u.haltHere_rest hrun, u.endMuster_eq]

/-- Settles O44, by whether the step is suspended, and by the count of its restarts. -/
theorem disturbedSuspendsOrVoids : Obligations.DisturbedSuspendsOrVoids := by
  unfold Obligations.DisturbedSuspendsOrVoids
  intro after s u v h hv
  have hl := s.takes_link u after h
  have hv' : u.setSource .disturbed = v := hv.symm
  rw [show exec (.disturbed after) s = .next u.takeDisturbed from s.takeFrame_takes u after _ _ h]
  refine ⟨fun hno => ?_, fun k hk hs hlt => ⟨fun hr => ?_, fun hr => ?_⟩,
    fun k void roster hk hs hle _ hvoid hroster => ⟨fun hr => ?_, fun hr => ?_⟩⟩
  · rw [← RunState.triggered_iff, Bool.not_eq_true] at hno
    rw [u.takeDisturbed_view hno, hv']
  · rw [u.takeDisturbed_step k hk (by rw [hr]; rfl), ((u.setSource .disturbed).disturbStep_suspends k hs hlt).1 hr,
      hv', v.suspendStep_eq, hv]
    rfl
  · rw [u.takeDisturbed_step k hk (by rw [hr]; rfl), ((u.setSource .disturbed).disturbStep_suspends k hs hlt).2 hr,
      hv', hv]
    rfl
  · rw [u.takeDisturbed_step k hk (by rw [hr]; rfl), (u.setSource .disturbed).disturbStep_voids k hs hle (.inl hr),
      (u.setSource .disturbed).voidStep_measuring k hl hr, hvoid, hroster, ← reportRest_eq, hv]
    rfl
  · rw [u.takeDisturbed_step k hk (by rw [hr]; rfl), (u.setSource .disturbed).disturbStep_voids k hs hle (.inr hr),
      (u.setSource .disturbed).voidStep_reported k hl hr, hroster, ← reportRest_eq, hv]
    rfl

/-- Settles O50: a LAPSE of an ACTIVE member in a step that has triggered, or any other. -/
theorem measureLapseCompletesStep : Obligations.MeasureLapseCompletesStep := by
  unfold Obligations.MeasureLapseCompletesStep
  intro after source k s u r roster h hr hroster
  rw [show exec (.lapseMeasure after source k) s = .next (u.takeLapseMeasure source k) from
    s.takeStation_any u after source _ _ h]
  rw [← RunState.triggered_iff]
  refine ⟨fun hrun hk hm _ => ?_, fun hno => ?_⟩
  · rw [u.takeLapseMeasure_completes source k (s.takesStation_link u after source _ h) hrun
      ((u.fromMember_iff source k).2 ⟨hk, hm⟩), hr, hroster, ← reportRest_eq]
    rfl
  · rw [u.takeLapseMeasure_other source k]
    rw [u.fromMember_iff]
    rintro ⟨hrun, hk, hm⟩
    rcases hno with hno | hno | hno
    · exact hno hrun
    · exact hno hk
    · exact hno hm

end

section
/-! The obligations on the timed step unit (O15, O18). -/

namespace Sys2Proof.Machine

/-! ## A verdict of the timed unit (R63 to R66) -/

/-- R64, R65: the verdict at the duration end, by the kind of the step. -/
theorem durationVerdict_eq (x : TimedSettings) : durationVerdict x = if x.kind = .creep then .pass else .fail := by
  unfold durationVerdict
  cases x.kind <;> rfl

/-- R64, R65: a CREEP count up to its threshold and a START count below its threshold form no verdict. -/
theorem pulseVerdict_none (x : TimedSettings) (m : Nat)
    (h : x.kind = .creep ∧ m ≤ x.threshold ∨ x.kind = .start ∧ m < x.threshold) : pulseVerdict x m = none := by
  unfold pulseVerdict
  rcases h with ⟨hx, hm⟩ | ⟨hx, hm⟩ <;> rw [hx]
  · exact if_neg (Nat.not_lt.2 hm)
  · exact if_neg (Nat.not_le.2 hm)

/-- R64: a CREEP count above its threshold fails the step. -/
theorem pulseVerdict_creep (x : TimedSettings) (m : Nat) (hx : x.kind = .creep) (hm : x.threshold < m) :
    pulseVerdict x m = some .fail := by
  rw [pulseVerdict, hx]
  exact if_pos hm

/-- R65: a START count at its threshold passes the step. -/
theorem pulseVerdict_start (x : TimedSettings) (m : Nat) (hx : x.kind = .start) (hm : x.threshold ≤ m) :
    pulseVerdict x m = some .pass := by
  rw [pulseVerdict, hx]
  exact if_pos hm

/-- R66: a CREEP step has no elapsed time. -/
theorem pulseElapsed_creep (x : TimedSettings) (stamp : Nat) (start : Option Nat) (hx : x.kind = .creep) :
    pulseElapsed x stamp start = none := by
  rw [pulseElapsed, hx]

/-- R65: the elapsed time of a START step, from its common start to the time stamp of the pulse. -/
theorem pulseElapsed_start (x : TimedSettings) (stamp : Nat) (start : Option Nat) (hx : x.kind = .start) :
    pulseElapsed x stamp start = start.map fun t0 => (stamp - t0) / 1000 := by
  rw [pulseElapsed, hx]
  rfl

/-! ## A pulse in COUNTING and in TRAILING (R9, R63 to R67) -/

/-- R9: with the gate idle the timed unit of an AWAKE station takes the pulse. -/
theorem State.consumer_timedUnit (u : State) (hl : u.line.link ≠ .strapFault) (ha : u.power.state = .awake)
    (hg : u.gate.state.takesPulses = false) (ht : u.timed.state.takesPulses = true) : u.consumer = .timedUnit := by
  simp [State.consumer, hl, ha, hg, ht]

/-- R9, R63: a pulse that the timed unit takes. -/
theorem exec_pulse_timed (s u : State) (stamp : Nat) (h : s.meets .pulseAccepted u)
    (hc : u.front.candidate = some stamp) (hl : u.line.link ≠ .strapFault) (ha : u.power.state = .awake)
    (hg : u.gate.state = .idle) (ht : u.timed.state.takesPulses = true) :
    exec .pulseAccepted s = .next ((u.afterPulse stamp).timedPulse stamp) := by
  have hgate : (u.afterPulse stamp).gate.state.takesPulses = false := by
    rw [show (u.afterPulse stamp).gate.state = .idle from hg]
    rfl
  rw [exec_pulseAccepted s u stamp h hc, State.routePulse, (u.afterPulse stamp).consumer_timedUnit hl ha hgate ht]

/-- R63: a pulse in COUNTING is counted. -/
theorem State.timedPulse_counting (s : State) (stamp : Nat) (k : StepIx) (x : TimedSettings) (c : Nat)
    (ht : s.timed.state = .counting) (hk : s.timed.step = some k) (hx : s.timed.settings = some x)
    (hn : s.timed.count = some c) : s.timedPulse stamp = s.countTimed k x (min 65_535 (c + 1)) stamp := by
  simp only [State.timedPulse, ht, hk, hx, hn]
  rfl

/-- R67: a pulse in TRAILING goes to the trailing count. -/
theorem State.timedPulse_trailing (s : State) (stamp : Nat) (k : StepIx) (c : Nat) (ht : s.timed.state = .trailing)
    (hk : s.timed.step = some k) (hn : s.timed.count = some c) :
    s.timedPulse stamp = s.trailTimed k (min 65_535 (c + 1)) := by
  simp only [State.timedPulse, ht, hk, hn]
  rfl

/-- R63: a count that forms no verdict is held in the unit alone. -/
theorem State.countTimed_none (s : State) (k : StepIx) (x : TimedSettings) (m stamp : Nat)
    (hv : pulseVerdict x m = none) :
    s.countTimed k x m stamp = { s with timed := { s.timed with count := some m } } := by
  rw [State.countTimed, hv]
  rfl

/-- R64 to R66, R120: a count that forms a verdict, in a station that takes part in the line. -/
theorem State.countTimed_some (s : State) (k : StepIx) (x : TimedSettings) (m stamp : Nat) (v : Verdict)
    (elapsed : Option Nat) (hl : s.line.link ≠ .strapFault) (hv : pulseVerdict x m = some v)
    (he : pulseElapsed x stamp s.timed.startTime = elapsed) :
    s.countTimed k x m stamp =
      { s with
        timed := { s.timed with state := .trailing, count := some m, verdict := some v, elapsed := elapsed }
        coord := { s.coord with
          results := s.coord.results.set k
            { s.result k with verdict := v, values := timedValues m elapsed, mark := .none } }
        line := { s.line with
          queue := { s.line.queue with
            done := some { frame := { step := k, verdict := v, attempt := (s.result k).attempt, error := none },
                           fails := 0, offered := false } } } } := by
  simp only [State.countTimed, hv, he]
  rw [State.formTimed, State.writeResult_onLine _ _ _ _ (by exact hl)]
  rfl

/-! ## The duration end (R63 to R65) -/

/-- R63: the duration ends in COUNTING. -/
theorem State.reachDuration_counting (s : State) (k : StepIx) (x : TimedSettings) (c : Nat)
    (ht : s.timed.state = .counting) (hk : s.timed.step = some k) (hx : s.timed.settings = some x)
    (hn : s.timed.count = some c) : s.reachDuration = s.formAtDuration k x c := by
  simp only [State.reachDuration, ht, hk, hx, hn]

/-- R64, R65: the duration ends in TRAILING. -/
theorem State.reachDuration_trailing (s : State) (ht : s.timed.state = .trailing) :
    s.reachDuration = { s with timed := { s.timed with state := .ended } } := by
  simp only [State.reachDuration, ht, State.mapTimed, TimedUnit.endTrailing, if_true]

/-- R63 to R66, R120: the verdict at the duration end, in a station that takes part in the line. -/
theorem State.formAtDuration_onLine (s : State) (k : StepIx) (x : TimedSettings) (c : Nat)
    (hl : s.line.link ≠ .strapFault) :
    s.formAtDuration k x c =
      { s with
        timed := { s.timed with state := .ended, verdict := some (durationVerdict x), elapsed := none }
        coord := { s.coord with
          results := s.coord.results.set k
            { s.result k with verdict := durationVerdict x, values := timedValues c none, mark := .none } }
        line := { s.line with
          queue := { s.line.queue with
            done := some { frame := { step := k, verdict := durationVerdict x, attempt := (s.result k).attempt,
                                      error := none },
                           fails := 0, offered := false } } } } := by
  rw [State.formAtDuration, State.writeResult_onLine _ _ _ _ (by exact hl)]
  rfl

end Sys2Proof.Machine

open Sys2Proof Sys2Proof.Machine

/-- Settles O15: the pulse goes to the timed unit, where it is counted with or without a verdict, or trails. -/
theorem timedUnitCountsPulses : Obligations.TimedUnitCountsPulses := by
  unfold Obligations.TimedUnitCountsPulses
  intro s u stamp k x c m h hc hl ha hg hk hx hn hm
  have hcounting : u.timed.state = .counting →
      exec .pulseAccepted s = .next ((u.afterPulse stamp).countTimed k x m stamp) := fun ht => by
    rw [exec_pulse_timed s u stamp h hc hl ha hg (by rw [ht]; rfl),
      (u.afterPulse stamp).timedPulse_counting stamp k x c ht hk hx hn, hm]
  refine ⟨fun ht hbelow => ?_, fun v elapsed ht hforms => ?_, fun ht => ?_⟩
  · rw [hcounting ht, (u.afterPulse stamp).countTimed_none k x m stamp (pulseVerdict_none x m hbelow)]
    rfl
  · obtain ⟨hv, he⟩ : pulseVerdict x m = some v ∧ pulseElapsed x stamp u.timed.startTime = elapsed := by
      rcases hforms with ⟨hkind, hlt, rfl, rfl⟩ | ⟨hkind, hle, rfl, rfl⟩
      · exact ⟨pulseVerdict_creep x m hkind hlt, pulseElapsed_creep x stamp _ hkind⟩
      · exact ⟨pulseVerdict_start x m hkind hle, pulseElapsed_start x stamp _ hkind⟩
    rw [hcounting ht, (u.afterPulse stamp).countTimed_some k x m stamp v elapsed hl hv he]
    rfl
  · rw [exec_pulse_timed s u stamp h hc hl ha hg (by rw [ht]; rfl),
      (u.afterPulse stamp).timedPulse_trailing stamp k c ht hk hn, ← hm]
    rfl

/-- Settles O18: the duration ends in COUNTING, with the verdict of the kind of the step, or in TRAILING. -/
theorem durationEndFormsVerdict : Obligations.DurationEndFormsVerdict := by
  unfold Obligations.DurationEndFormsVerdict
  intro s u h
  rw [show exec .durationEnd s = .next u.reachDuration from s.atLocal_meets u _ h]
  refine ⟨fun k x c v hl ht hk hx hn hv => ?_, fun ht => ?_⟩
  · rw [u.reachDuration_counting k x c ht hk hx hn, u.formAtDuration_onLine k x c hl, durationVerdict_eq, ← hv]
    rfl
  · rw [u.reachDuration_trailing ht]

end


section
/-! The obligations on the selector, the word checks and the words of frames (O53, O55, O56). -/

namespace Sys2Proof

/-! ## The selector (R83) -/

/-- R83: the five bits, one by one. -/
theorem Selector.covers_iff (sel : Selector) (p : Position) :
    sel.covers p = true ↔ ∀ i < 5, sel.mask.getLsbD i = true → p.getLsbD i = sel.value.getLsbD i := by
  rw [Selector.covers, beq_iff_eq, BitVec.eq_of_getLsbD_eq_iff]
  refine forall₂_congr fun i _ => ?_
  rw [BitVec.getLsbD_and, BitVec.getLsbD_xor, BitVec.ofNat_eq_ofNat, BitVec.getLsbD_zero]
  cases sel.mask.getLsbD i <;> simp

theorem Selector.covers_of_mask_zero (sel : Selector) (p : Position) (h : sel.mask = 0) : sel.covers p = true :=
  (sel.covers_iff p).2 fun i _ hm => by simp [h] at hm

theorem Selector.covers_iff_of_full_mask (sel : Selector) (p : Position) (h : sel.mask = 0x1F) :
    sel.covers p = true ↔ p = sel.value := by
  have hfull : sel.mask = BitVec.allOnes 5 := h
  rw [sel.covers_iff p, BitVec.eq_of_getLsbD_eq_iff, hfull]
  exact forall₂_congr fun i hi => by rw [BitVec.getLsbD_allOnes, decide_eq_true hi, eq_self, true_imp_iff]

/-! ## The word check (R77, R171) -/

/-- What the division feeds back where the leading bit is set: x^8 is x^2 + x + 1. -/
def checkFeedback (b : Bool) : Check := if b then 0x07 else 0

theorem checkFeedback_xor (a b : Bool) : checkFeedback (a ^^ b) = checkFeedback a ^^^ checkFeedback b := by
  cases a <;> cases b <;> rfl

theorem checkShift_eq (c : Check) (b : Bool) : checkShift c b = c <<< 1 ^^^ checkFeedback (c.msb ^^ b) := by
  unfold checkShift checkFeedback
  cases c.msb <;> cases b <;> simp

/-- One step of the division is linear in the remainder and the bit taken in. -/
theorem checkShift_xor (c d : Check) (a b : Bool) :
    checkShift (c ^^^ d) (a ^^ b) = checkShift c a ^^^ checkShift d b := by
  have hbit : ((c.msb ^^ d.msb) ^^ (a ^^ b)) = ((c.msb ^^ a) ^^ (d.msb ^^ b)) := by
    rw [Bool.xor_assoc, Bool.xor_assoc, Bool.xor_left_comm d.msb]
  rw [checkShift_eq, checkShift_eq, checkShift_eq, BitVec.msb_xor, hbit, checkFeedback_xor,
    BitVec.shiftLeft_xor_distrib]
  ac_rfl

theorem baseCheckFrom_xor (v w : Word) (n : Nat) (c d : Check) :
    baseCheckFrom (v ^^^ w) n (c ^^^ d) = baseCheckFrom v n c ^^^ baseCheckFrom w n d := by
  induction n generalizing c d with
  | zero => rfl
  | succ n ih => rw [baseCheckFrom, baseCheckFrom, baseCheckFrom, BitVec.getLsbD_xor, checkShift_xor, ih]

/-- Zeros taken in before the first set bit leave the remainder 0. -/
theorem baseCheckFrom_zeros_first (w : Word) (n m : Nat) (h : ∀ j, n ≤ j → w.getLsbD j = false) :
    baseCheckFrom w (n + m) 0 = baseCheckFrom w n 0 := by
  induction m with
  | zero => rfl
  | succ m ih =>
    rw [← Nat.add_assoc, baseCheckFrom, h (n + m) (Nat.le_add_right n m)]
    exact ih

/-- Zeros taken in after the last set bit shift the remainder. -/
theorem baseCheckFrom_zeros_last (w : Word) (n : Nat) (c : Check) (h : ∀ j < n, w.getLsbD j = false) :
    baseCheckFrom w n c = (fun c => checkShift c false)^[n] c := by
  induction n generalizing c with
  | zero => rfl
  | succ n ih => rw [baseCheckFrom, h n (by omega), ih _ fun j hj => h j (by omega), Function.iterate_succ_apply]

/-- R171: the contribution of a bit is that of bit 0, shifted once for each bit below it. -/
theorem baseCheck_twoPow (i : Nat) (hi : i < 16) :
    baseCheck (BitVec.twoPow 16 i) = (fun c => checkShift c false)^[i] 0x07 := by
  have hsplit : 16 = i + 1 + (15 - i) := by omega
  have hset : (BitVec.twoPow 16 i).getLsbD i = true := by simp [hi]
  have hclear : ∀ j, j ≠ i → (BitVec.twoPow 16 i).getLsbD j = false := fun j hj => by
    simp [BitVec.getLsbD_twoPow, Ne.symm hj]
  calc baseCheckFrom (BitVec.twoPow 16 i) 16 0
      = baseCheckFrom (BitVec.twoPow 16 i) (i + 1 + (15 - i)) 0 := congrArg (baseCheckFrom _ · 0) hsplit
    _ = baseCheckFrom (BitVec.twoPow 16 i) (i + 1) 0 :=
        baseCheckFrom_zeros_first _ _ _ fun j hj => hclear j (by omega)
    _ = baseCheckFrom (BitVec.twoPow 16 i) i 0x07 := by rw [baseCheckFrom, hset]; rfl
    _ = (fun c => checkShift c false)^[i] 0x07 := baseCheckFrom_zeros_last _ _ _ fun j hj => hclear j (by omega)

/-- R171: the contributions of the sixteen bits. -/
theorem baseCheck_contributions :
    (List.range 16).map (fun i => baseCheck (BitVec.twoPow 16 i)) = checkContributions := by
  rw [List.map_congr_left fun i hi => baseCheck_twoPow i (List.mem_range.1 hi)]
  decide

/-- The role of word `i` of a frame of `n` words (R75, R77). -/
def roleAt (n i : Nat) : WordRole := if i = 0 then .head else if i + 1 = n then .final else .body

@[simp] theorem tailGroups_length (words : List Word) : (tailGroups words).length = words.length := by
  fun_induction tailGroups words <;> simp_all

@[simp] theorem groupsOf_length (words : List Word) : (groupsOf words).length = words.length := by
  cases words <;> simp [groupsOf]

theorem tailGroups_cons (w : Word) (rest : List Word) (h : rest ≠ []) :
    tailGroups (w :: rest) = (w, wordCheck .body w) :: tailGroups rest := by
  cases rest with
  | nil => exact absurd rfl h
  | cons _ _ => rfl

theorem tailGroups_getElem (words : List Word) (i : Nat) (h : i < words.length) :
    (tailGroups words)[i]'(by simpa using h) =
      (words[i], wordCheck (if i + 1 = words.length then .final else .body) words[i]) := by
  fun_induction tailGroups words generalizing i with
  | case1 => simp at h
  | case2 w =>
    obtain rfl : i = 0 := by simpa using h
    rfl
  | case3 w rest hrest ih =>
    have hne : rest ≠ [] := hrest
    cases i with
    | zero => simp [tailGroups_cons w rest hne, hne]
    | succ i => simp [tailGroups_cons w rest hne, ih i (by simpa using h)]

/-- R77: a sender gives each word the check of its role. -/
theorem groupsOf_getElem (words : List Word) (i : Nat) (h : i < words.length) :
    (groupsOf words)[i]'(by simpa using h) = (words[i], wordCheck (roleAt words.length i) words[i]) := by
  cases words with
  | nil => simp at h
  | cons w rest =>
    cases i with
    | zero => rfl
    | succ i => simp [groupsOf, roleAt, tailGroups_getElem rest i (by simpa using h)]

theorem groupsOf_map_fst (words : List Word) : (groupsOf words).map Prod.fst = words :=
  List.ext_getElem (by simp) fun i _ h => by simp [groupsOf_getElem words i h]

/-- R78: the groups that a sender forms are those with the check of the role throughout. -/
theorem eq_groupsOf_iff (groups : List Group) :
    groups = groupsOf (groups.map Prod.fst) ↔
      ∀ i, ∀ h : i < groups.length, groups[i].2 = wordCheck (roleAt groups.length i) groups[i].1 := by
  have hsent : ∀ i, ∀ h : i < groups.length, (groupsOf (groups.map Prod.fst))[i]'(by simpa using h) =
      (groups[i].1, wordCheck (roleAt groups.length i) groups[i].1) := fun i h => by
    rw [groupsOf_getElem _ i (by simpa using h)]
    simp
  constructor
  · intro heq i h
    rw [List.getElem_of_eq heq h, hsent i h]
  · exact fun hchecks => List.ext_getElem (by simp) fun i h _ => by rw [hsent i h, ← hchecks i h]

/-- R78: a frame of one word is bad. -/
theorem frameBad_short (groups : List Group) (h : groups.length < 2) : frameBad groups = true := by
  match groups, h with
  | [], _ => rfl
  | [_], _ => rfl

theorem payloadLengthField_eq (w : Word) : payloadLengthField w = (w >>> 12).toNat := by
  have hw := w.isLt
  simp [payloadLengthField, Nat.shiftRight_eq_div_pow]
  omega

/-- R78: a frame of two words or more. -/
theorem frameBad_iff (groups : List Group) (h : 1 < groups.length) :
    frameBad groups = true ↔
      groups ≠ groupsOf (groups.map Prod.fst) ∨ 14 < groups.length
        ∨ groups.length ≠ 2 + payloadLengthField groups[1].1 := by
  match groups, h with
  | g1 :: g2 :: rest, _ => simp [frameBad, or_assoc]

/-! ## Header words (R171) -/

open BitVec (extractLsb'_append_eq_of_le extractLsb'_append_eq_of_add_le extractLsb'_append_eq_left
  extractLsb'_append_eq_right extractLsb'_eq_self)

theorem headWord_marker (kind : FrameKind) (source : Position) : (headWord kind source).extractLsb' 0 2 = 2 := by
  rw [headWord, extractLsb'_append_eq_of_add_le (by decide)]
  rfl

theorem headWord_kindCode (kind : FrameKind) (source : Position) :
    (headWord kind source).extractLsb' 2 5 = kind.code := by
  rw [headWord, extractLsb'_append_eq_of_le (by decide)]
  exact extractLsb'_append_eq_right

theorem headWord_source (kind : FrameKind) (source : Position) : sourceField (headWord kind source) = source := by
  rw [sourceField, headWord, extractLsb'_append_eq_of_le (by decide), extractLsb'_append_eq_of_le (by decide)]
  exact extractLsb'_append_eq_right

theorem headWord_priority (kind : FrameKind) (source : Position) :
    (headWord kind source).extractLsb' 12 4 = kind.priority := by
  rw [headWord, extractLsb'_append_eq_of_le (by decide), extractLsb'_append_eq_of_le (by decide)]
  exact extractLsb'_append_eq_left

theorem kindOfCode_code (kind : FrameKind) : kindOfCode kind.code = some kind := by
  cases kind <;> rfl

theorem secondWord_zeros (length : Nat) (sel : Selector) : (secondWord length sel).extractLsb' 0 2 = 0 := by
  rw [secondWord, extractLsb'_append_eq_of_add_le (by decide)]
  rfl

theorem secondWord_mask (length : Nat) (sel : Selector) : (secondWord length sel).extractLsb' 2 5 = sel.mask := by
  rw [secondWord, extractLsb'_append_eq_of_le (by decide)]
  exact extractLsb'_append_eq_right

theorem secondWord_value (length : Nat) (sel : Selector) : (secondWord length sel).extractLsb' 7 5 = sel.value := by
  rw [secondWord, extractLsb'_append_eq_of_le (by decide), extractLsb'_append_eq_of_le (by decide)]
  exact extractLsb'_append_eq_right

theorem secondWord_selector (length : Nat) (sel : Selector) : selectorField (secondWord length sel) = sel := by
  rw [selectorField, secondWord_mask, secondWord_value]

theorem secondWord_length (length : Nat) (sel : Selector) (h : length < 16) :
    payloadLengthField (secondWord length sel) = length := by
  rw [payloadLengthField, secondWord, extractLsb'_append_eq_of_le (by decide), extractLsb'_append_eq_of_le (by decide),
    extractLsb'_append_eq_of_le (by decide)]
  simpa using h

/-- R81, R82: a console frame may have any selector, a station frame or a source frame that of zeros alone. -/
theorem selectorFits_secondWord (c : SenderClass) (length : Nat) (sel : Selector)
    (h : c = .console ∨ sel = Selector.zero) :
    selectorFits c (secondWord length sel) = true := by
  rcases h with rfl | rfl
  · rfl
  · have hten : (secondWord length Selector.zero).extractLsb' 2 10 = 0 := by
      rw [← BitVec.extractLsb'_append_extractLsb'_eq_extractLsb' (len₁ := 5) (len₂ := 5) (start₂ := 7) rfl,
        secondWord_value, secondWord_mask]
      rfl
    cases c <;> simp [selectorFits, hten]

/-! ## Whole frames (R78, R82) -/

/-- R82: no kind has more than twelve payload words. -/
theorem length_le_of_lengthFits (kind : FrameKind) (payload : List Word) (h : lengthFits kind payload = true) :
    payload.length ≤ 12 := by
  cases kind with
  | done =>
    match payload, h with
    | [_], _ => simp
    | [_, _], _ => simp
  | reply =>
    match payload, h with
    | w :: rest, h =>
      simp only [lengthFits] at h
      split at h
      · rename_i r _
        have hr : r.payloadLength ≤ 12 := by cases r <;> decide
        exact (beq_iff_eq.1 h).le.trans hr
      · exact absurd h (by decide)
  | _ =>
    simp only [lengthFits, beq_iff_eq] at h
    omega

/-- R82: the header and the length of a frame that a sender forms. -/
structure FrameFits (kind : FrameKind) (source : Position) (sel : Selector) (payload : List Word) : Prop where
  length : lengthFits kind payload = true
  source : sourceFits kind.sender source = true
  selector : kind.sender = .console ∨ sel = Selector.zero

section
variable {kind : FrameKind} {source : Position} {sel : Selector} {payload : List Word}

theorem FrameFits.length_le (h : FrameFits kind source sel payload) : payload.length ≤ 12 :=
  length_le_of_lengthFits kind payload h.length

theorem FrameFits.lengthField (h : FrameFits kind source sel payload) :
    payloadLengthField (secondWord payload.length sel) = payload.length :=
  secondWord_length _ _ (Nat.lt_of_le_of_lt h.length_le (by decide))

theorem FrameFits.wellFormed (h : FrameFits kind source sel payload) :
    wellFormedFrame (formFrame kind source sel payload) = true := by
  simp [wellFormedFrame, formFrame, headerFits, headWord_kindCode, kindOfCode_code, headWord_marker, headWord_priority,
    headWord_source, secondWord_zeros, h.lengthField, h.length, h.source, selectorFits_secondWord _ _ _ h.selector]

/-- R78: the words with the checks of their roles are marked bad for their number alone. -/
theorem frameBad_groupsOf (w1 w2 : Word) (payload : List Word) (h : payloadLengthField w2 = payload.length)
    (hlen : payload.length ≤ 12) : frameBad (groupsOf (w1 :: w2 :: payload)) = false := by
  have hcount : payload.length + 1 + 1 = 2 + payload.length := by omega
  simp [frameBad, groupsOf_map_fst, h, hcount]
  omega

theorem FrameFits.notBad (h : FrameFits kind source sel payload) :
    frameBad (groupsOf (formFrame kind source sel payload)) = false :=
  frameBad_groupsOf _ _ _ h.lengthField h.length_le

/-- The words of a frame spell the command that its payload spells. -/
theorem FrameFits.takenCommand (h : FrameFits kind source sel payload) (after : Nat) (c : Instr)
    (hc : readPayload after kind source sel payload = some c) :
    takenCommand after (formFrame kind source sel payload) = c := by
  have hread : readFrame after (formFrame kind source sel payload) = some c := by
    simp only [readFrame, formFrame, headWord_kindCode, kindOfCode_code, headWord_source, secondWord_selector, hc]
  rw [Sys2Proof.takenCommand, commandOf, if_pos h.wellFormed, hread]
  rfl

end

/-! ## Payload words (R172, R173) -/

theorem wordsOf32_join (x : BitVec 32) : join32 (x.extractLsb' 16 16) (x.extractLsb' 0 16) = x := by
  rw [join32]
  exact (BitVec.extractLsb'_append_extractLsb'_eq_extractLsb' rfl).trans extractLsb'_eq_self

theorem readPlan_planWords (x : PlanPayload) : readPlan (planWords x) = some x := by
  have hedge : edgeOfBit ((Edge.bit x.edge ++ 0#7 ++ x.filter : Word).getLsbD 15) = x.edge := by
    rw [BitVec.getLsbD_append, BitVec.getLsbD_append]
    cases x.edge <;> rfl
  have hfilter : (Edge.bit x.edge ++ 0#7 ++ x.filter : Word).extractLsb' 0 8 = x.filter :=
    extractLsb'_append_eq_right
  have hfirst : (x.windowFirst ++ x.windowLast : Word).extractLsb' 8 8 = x.windowFirst :=
    extractLsb'_append_eq_left
  have hlast : (x.windowFirst ++ x.windowLast : Word).extractLsb' 0 8 = x.windowLast :=
    extractLsb'_append_eq_right
  simp only [planWords, wordsOf32, readPlan, List.cons_append, List.nil_append, wordsOf32_join, hedge, hfilter,
    hfirst, hlast]

theorem readStep_stepWords (x : StepPayload) : readStep (stepWords x) = some x := by
  have hkind : (x.kind ++ x.allowance ++ x.loadPoint : Word).extractLsb' 12 4 = x.kind := by
    rw [extractLsb'_append_eq_of_le (by decide)]
    exact extractLsb'_append_eq_left
  have hallowance : (x.kind ++ x.allowance ++ x.loadPoint : Word).extractLsb' 8 4 = x.allowance := by
    rw [extractLsb'_append_eq_of_le (by decide)]
    exact extractLsb'_append_eq_right
  have hload : (x.kind ++ x.allowance ++ x.loadPoint : Word).extractLsb' 0 8 = x.loadPoint :=
    extractLsb'_append_eq_right
  have hthreshold : (x.threshold ++ x.duration.extractLsb' 16 8 : Word).extractLsb' 8 8 = x.threshold :=
    extractLsb'_append_eq_left
  have hduration : (x.threshold ++ x.duration.extractLsb' 16 8 : Word).extractLsb' 0 8 ++ x.duration.extractLsb' 0 16
      = x.duration := by
    rw [extractLsb'_append_eq_of_add_le (by decide), extractLsb'_eq_self]
    exact (BitVec.extractLsb'_append_extractLsb'_eq_extractLsb' rfl).trans extractLsb'_eq_self
  simp only [stepWords, wordsOf32, readStep, List.cons_append, List.nil_append, wordsOf32_join, hkind, hallowance, hload,
    hthreshold, hduration]

/-- The step index stands in the four highest bits (R172). -/
theorem stepField_append (k : StepIx) (low : BitVec 12) : stepField (stepBits k ++ low) = k :=
  congrArg stepOfBits extractLsb'_append_eq_left

theorem verdictOfCode_code (v : Verdict) : verdictOfCode (Verdict.code v) = v := by
  cases v <;> rfl

theorem recordOfCode_code (r : RecordKind) : recordOfCode (RecordKind.code r) = some r := by
  cases r <;> rfl

/-- The first word of a DONE, with the bits that its form puts last (R172). -/
def doneWord (k : StepIx) (v : Verdict) (attempt : BitVec 4) (last : BitVec 5) : Word :=
  stepBits k ++ Verdict.code v ++ attempt ++ last

theorem doneWords_none (k : StepIx) (v : Verdict) (attempt : BitVec 4) :
    doneWords k v attempt none = [doneWord k v attempt 0#5] := rfl

theorem doneWords_some (k : StepIx) (v : Verdict) (attempt : BitVec 4) (e : BitVec 21) :
    doneWords k v attempt (some e) = [doneWord k v attempt (e.extractLsb' 16 5), e.extractLsb' 0 16] := rfl

theorem doneWord_fields (k : StepIx) (v : Verdict) (attempt : BitVec 4) (last : BitVec 5) :
    stepField (doneWord k v attempt last) = k ∧ (doneWord k v attempt last).extractLsb' 9 3 = Verdict.code v
      ∧ (doneWord k v attempt last).extractLsb' 5 4 = attempt ∧ (doneWord k v attempt last).extractLsb' 0 5 = last := by
  refine ⟨?_, ?_, ?_, ?_⟩
  · rw [stepField, doneWord, extractLsb'_append_eq_of_le (by decide), extractLsb'_append_eq_of_le (by decide)]
    exact congrArg stepOfBits extractLsb'_append_eq_left
  · rw [doneWord, extractLsb'_append_eq_of_le (by decide), extractLsb'_append_eq_of_le (by decide)]
    exact extractLsb'_append_eq_right
  · rw [doneWord, extractLsb'_append_eq_of_le (by decide)]
    exact extractLsb'_append_eq_right
  · exact extractLsb'_append_eq_right

theorem readDone_doneWords (after : Nat) (source : Position) (k : StepIx) (v : Verdict) (attempt : BitVec 4)
    (error : Option (BitVec 21)) :
    readDone after source (doneWords k v attempt error) = some (.done after source k v attempt error) := by
  cases error with
  | none =>
    obtain ⟨hk, hv, ha, _⟩ := doneWord_fields k v attempt 0#5
    simp only [doneWords_none, readDone, hk, hv, ha, verdictOfCode_code]
  | some e =>
    obtain ⟨hk, hv, ha, he⟩ := doneWord_fields k v attempt (e.extractLsb' 16 5)
    have herror : e.extractLsb' 16 5 ++ e.extractLsb' 0 16 = e :=
      (BitVec.extractLsb'_append_extractLsb'_eq_extractLsb' rfl).trans extractLsb'_eq_self
    simp only [doneWords_some, readDone, hk, hv, ha, he, verdictOfCode_code, herror]

/-- The command of a QUERY for a record (R163). -/
def queryCommand (after : Nat) (sel : Selector) (slot : BitVec 5) : RecordKind → Instr
  | .status => .queryStatus after sel
  | .result => .queryResult after sel slot
  | .closure => .queryClosure after sel
  | .selftest => .querySelftest after sel
  | .roster => .queryRoster after sel

theorem readQuery_queryWord (after : Nat) (sel : Selector) (kind : RecordKind) (slot : BitVec 5) :
    readQuery after sel (queryWord kind slot) = some (queryCommand after sel slot kind) := by
  have hkind : recordOfCode ((queryWord kind slot).extractLsb' 12 4) = some kind := by
    rw [queryWord, extractLsb'_append_eq_of_le (by decide), extractLsb'_append_eq_of_le (by decide), extractLsb'_eq_self,
      recordOfCode_code]
  have hslot : (queryWord kind slot).extractLsb' 0 5 = slot :=
    extractLsb'_append_eq_right
  rw [readQuery, hkind]
  cases kind <;> simp only [hslot, queryCommand]

theorem reasonOfBit_word (r : ParkedReason) : reasonOfBit ((0#15 ++ ParkedReason.bit r : Word).getLsbD 0) = r := by
  cases r <;> rfl

/-- R172: the phase of a LAPSE stands in bit 11. -/
theorem lapseWord_phase (k : StepIx) (p : LapsePhase) : (lapseWord k p).getLsbD 11 = (LapsePhase.bit p).getLsbD 0 := by
  rw [lapseWord, BitVec.getLsbD_append, BitVec.getLsbD_append]
  rfl

theorem lapseWord_step (k : StepIx) (p : LapsePhase) : stepField (lapseWord k p) = k := by
  rw [stepField, lapseWord, extractLsb'_append_eq_of_le (by decide)]
  exact congrArg stepOfBits extractLsb'_append_eq_left

theorem readLapse (after : Nat) (source : Position) (k : StepIx) (p : LapsePhase) :
    readPayload after .lapse source Selector.zero [lapseWord k p] =
      some (if p = .measure then .lapseMeasure after source k else .lapseGather after source k) := by
  show some (if (lapseWord k p).getLsbD 11 then Instr.lapseMeasure after source (stepField (lapseWord k p))
    else .lapseGather after source (stepField (lapseWord k p))) = _
  rw [lapseWord_phase, lapseWord_step]
  cases p <;> rfl

/-! ## The words of each command (R82, R172) -/

/-- A whole frame that fits R82 and whose payload spells the command. -/
def Instr.Spelled (c : Instr) (words : List Word) : Prop :=
  ∃ kind source sel payload, FrameFits kind source sel payload ∧ words = formFrame kind source sel payload
    ∧ readPayload (Machine.afterOf c) kind source sel payload = some c

theorem stationFrame_fits (f : StationFrame) (source : Position) (h : Machine.stationFrameFits f source = true) :
    FrameFits f.kind source Selector.zero f.payload := by
  obtain ⟨hsource, hcontent⟩ := Bool.and_eq_true_iff.1 h
  refine ⟨?_, by cases f <;> exact hsource, .inr rfl⟩
  cases f with
  | done k v a e =>
    cases e with
    | none => rfl
    | some e =>
      obtain ⟨_, hv, _, _⟩ := doneWord_fields k v a (e.extractLsb' 16 5)
      rw [StationFrame.kind, StationFrame.payload, doneWords_some, lengthFits, hv, verdictOfCode_code]
      exact hcontent
  | reply payload => exact hcontent
  | _ => rfl

/-- R172: the payload of a station frame spells its command. -/
theorem readPayload_station (c : Instr) (after : Nat) (source : Position) (f : StationFrame)
    (hf : Machine.stationFrameOf c = some (after, source, f)) :
    readPayload after f.kind source Selector.zero f.payload = some c := by
  cases c <;> simp only [Machine.stationFrameOf, Option.some.injEq, Prod.mk.injEq, reduceCtorEq] at hf
  all_goals obtain ⟨rfl, rfl, rfl⟩ := hf
  case present => rfl
  case ready after source k => exact congrArg (fun k => some (Instr.ready after source k)) (stepField_append k 0#12)
  case hold after source k => exact congrArg (fun k => some (Instr.hold after source k)) (stepField_append k 0#12)
  case done after source k v attempt error => exact readDone_doneWords after source k v attempt error
  case lapseGather after source k => exact readLapse after source k .gather
  case lapseMeasure after source k => exact readLapse after source k .measure
  case parked after source r => exact congrArg (fun r => some (Instr.parked after source r)) (reasonOfBit_word r)
  case reply => rfl

/-- A station frame command is well formed where its frame fits, and carries the instant of that frame. -/
theorem stationFrameOf_operands (c : Instr) (after : Nat) (source : Position) (f : StationFrame)
    (hf : Machine.stationFrameOf c = some (after, source, f)) :
    c.wellFormed = Machine.stationFrameFits f source ∧ Machine.afterOf c = after := by
  cases c <;> simp only [Machine.stationFrameOf, Option.some.injEq, Prod.mk.injEq, reduceCtorEq] at hf
  all_goals
    obtain ⟨rfl, rfl, rfl⟩ := hf
    exact ⟨rfl, rfl⟩

theorem station_spelled (c : Instr) (after : Nat) (source : Position) (f : StationFrame)
    (hf : Machine.stationFrameOf c = some (after, source, f)) (hw : c.wellFormed = true) :
    c.Spelled (f.words source) := by
  obtain ⟨hfits, hafter⟩ := stationFrameOf_operands c after source f hf
  refine ⟨f.kind, source, Selector.zero, f.payload, stationFrame_fits f source (hfits ▸ hw), rfl, ?_⟩
  rw [hafter, readPayload_station c after source f hf]

/-- A console frame has any selector and the source 0. -/
theorem console_spelled (c : Instr) (kind : FrameKind) (sel : Selector) (payload : List Word)
    (hk : kind.sender = .console) (hl : lengthFits kind payload = true)
    (hc : readPayload (Machine.afterOf c) kind 0 sel payload = some c) : c.Spelled (formFrame kind 0 sel payload) :=
  ⟨kind, 0, sel, payload, ⟨hl, by rw [hk]; rfl, .inl hk⟩, rfl, hc⟩

/-- R82: the words of a well-formed command that is a whole frame, by its kind. -/
theorem frameWords_spelled (c : Instr) (words : List Word) (hw : c.wellFormed = true) (h : frameWords c = some words) :
    c.Spelled words := by
  cases c <;> simp only [frameWords, Option.some.injEq, reduceCtorEq] at h
  all_goals subst h
  case plan after sel x => exact console_spelled _ .plan sel _ rfl rfl (congrArg (Option.map _) (readPlan_planWords x))
  case step after sel x => exact console_spelled _ .step sel _ rfl rfl (congrArg (Option.map _) (readStep_stepWords x))
  case muster after sel n count =>
    exact console_spelled _ .muster sel _ rfl rfl
      (congrArg (fun x => some (Instr.muster after sel n x)) extractLsb'_append_eq_right)
  case run after sel n first =>
    exact console_spelled _ .run sel _ rfl rfl
      (congrArg (fun x => some (Instr.run after sel n x)) extractLsb'_append_eq_right)
  case halt after sel => exact console_spelled _ .halt sel _ rfl rfl rfl
  case resetRun after sel => exact console_spelled _ .reset sel _ rfl rfl rfl
  case resetAll after sel => exact console_spelled _ .reset sel _ rfl rfl rfl
  case close after sel => exact console_spelled _ .close sel _ rfl rfl rfl
  case release after sel => exact console_spelled _ .release sel _ rfl rfl rfl
  case queryStatus after sel => exact console_spelled _ .query sel _ rfl rfl (readQuery_queryWord after sel .status 0)
  case queryResult after sel slot =>
    exact console_spelled _ .query sel _ rfl rfl (readQuery_queryWord after sel .result slot)
  case queryClosure after sel => exact console_spelled _ .query sel _ rfl rfl (readQuery_queryWord after sel .closure 0)
  case querySelftest after sel => exact console_spelled _ .query sel _ rfl rfl (readQuery_queryWord after sel .selftest 0)
  case queryRoster after sel => exact console_spelled _ .query sel _ rfl rfl (readQuery_queryWord after sel .roster 0)
  case settled after lp =>
    exact ⟨.settled, 31, Selector.zero, _, ⟨rfl, rfl, .inr rfl⟩, rfl,
      congrArg (fun x => some (Instr.settled after x)) extractLsb'_append_eq_right⟩
  case disturbed after => exact ⟨.disturbed, 31, Selector.zero, _, ⟨rfl, rfl, .inr rfl⟩, rfl, rfl⟩
  all_goals exact station_spelled _ _ _ _ rfl hw

end Sys2Proof

open Sys2Proof Sys2Proof.Machine

/-- Settles O53: the bits one by one; the two ends of the mask; a QUERY for STATUS, as a frame that shows the match. -/
theorem selectorMatchesMaskedBits : Obligations.SelectorMatchesMaskedBits := by
  unfold Obligations.SelectorMatchesMaskedBits
  refine ⟨fun sel p => ⟨sel.covers_iff p, sel.covers_of_mask_zero p, sel.covers_iff_of_full_mask p⟩, fun after sel s u h => ?_⟩
  rw [← sel.covers_iff u.line.strap]
  refine ⟨fun hc => ?_, fun hc => ?_⟩
  · rw [show exec (.queryStatus after sel) s = .next (u.queueReply .status 0) from
      s.takeConsole_matching u after _ sel _ ⟨h, hc⟩]
    exact congrArg _ (u.request_onLine _ (s.takes_link u after h))
  · exact s.takeConsole_other u after _ sel _ ⟨h, Bool.eq_false_iff.2 hc⟩

/-- Settles O55: the division is linear; the conditions of R78, with a frame of one word apart. -/
theorem wordChecksFollowTable : Obligations.WordChecksFollowTable := by
  unfold Obligations.WordChecksFollowTable
  refine ⟨fun v w => baseCheckFrom_xor v w 16 0 0, baseCheck_contributions, fun w => ⟨rfl, rfl, rfl⟩, fun groups hne => ?_⟩
  rcases Nat.lt_or_ge 1 groups.length with hlen | hlen
  · rw [frameBad_iff groups hlen, ne_eq, eq_groupsOf_iff, payloadLengthField_eq]
    have hshort : ¬groups.length < 2 := by omega
    simp only [hshort, hlen, exists_true_left, false_or, not_forall]
    rfl
  · have hshort : groups.length < 2 := by omega
    simp [frameBad_short groups hshort, hshort]

/-- Settles O56: the frame that each command forms fits R82, and its payload spells the command. -/
theorem frameWordsReadBack : Obligations.FrameWordsReadBack := by
  unfold Obligations.FrameWordsReadBack
  intro c words hw h
  obtain ⟨kind, source, sel, payload, hfits, rfl, hread⟩ := frameWords_spelled c words hw h
  exact ⟨hfits.wellFormed, hfits.notBad, hfits.takenCommand _ c hread⟩

end


section
/-! The obligations on the queue, attempts, aborted and foreign frames, JOINING and queries (O26 to O31). -/

namespace Sys2Proof.Machine

/-! ## A start bit (R75, R76, R80, R86 to R88) -/

theorem LineInterface.mayStart_iff (l : LineInterface) :
    l.mayStart = true ↔ l.link = .normal ∧ l.phase = .idle ∧ l.role = .none := by
  simp [LineInterface.mayStart, and_assoc]

theorem arbitrate_won (sent : BitVec 9) : arbitrate sent sent true = .won := by
  simp [arbitrate]

/-- R87: the highest bit that differs decides, so a loss reads back a smaller number. -/
theorem arbitrate_lost (sent read : BitVec 9) (restMatches : Bool) (h : read < sent) :
    arbitrate sent read restMatches = .lost :=
  if_pos h

theorem arbitrate_mismatch (sent read : BitVec 9) (restMatches : Bool)
    (h : sent < read ∨ read = sent ∧ restMatches = false) : arbitrate sent read restMatches = .mismatch := by
  rcases h with h | ⟨rfl, rfl⟩
  · rw [arbitrate, if_neg (BitVec.lt_asymm h), if_pos h]
  · simp [arbitrate]

/-- R86: a station that may not start, or has nothing to send. -/
theorem State.startAttempt_refused (s : State) (arbRead : BitVec 9) (restMatches : Bool) (groups : Nat)
    (h : s.line.link ≠ .normal ∨ s.line.phase ≠ .idle ∨ s.line.role ≠ .none ∨ s.offer = none) :
    s.startAttempt arbRead restMatches groups = s := by
  unfold State.startAttempt
  split
  · rename_i hm
    obtain ⟨hl, hp, hr⟩ := (s.line.mayStart_iff).1 hm
    have ho : s.offer = none := by simpa [hl, hp, hr] using h
    rw [ho]
  · rfl

/-- R86: an attempt with the outcome of its read-back. -/
theorem State.startAttempt_offers (s : State) (f : StationFrame) (arbRead : BitVec 9) (restMatches : Bool)
    (groups : Nat) (outcome : AttemptOutcome) (hm : s.line.mayStart = true) (ho : s.offer = some f)
    (harb : arbitrate (f.arbitration s.line.strap) arbRead restMatches = outcome) :
    s.startAttempt arbRead restMatches groups =
      ((s.beginAttempt f).readBack f outcome).mapLine fun l =>
        { l with endSlot := some (s.afterGroups (s.groupsOnLine f outcome groups)) } := by
  simp only [State.startAttempt, hm, ho, harb, if_true]

theorem State.startAttempt_won (s : State) (f : StationFrame) (arbRead : BitVec 9) (restMatches : Bool) (groups : Nat)
    (hm : s.line.mayStart = true) (ho : s.offer = some f)
    (harb : arbitrate (f.arbitration s.line.strap) arbRead restMatches = .won) :
    s.startAttempt arbRead restMatches groups =
      { s with line := { s.line with
          phase := .frame, endSlot := some (s.now + (2 + f.payload.length) * 200), transmit := some f
          role := .sending, queue := s.line.queue.change (stationKindOf f) .offer } } := by
  rw [s.startAttempt_offers f arbRead restMatches groups _ hm ho harb, State.groupsOnLine, stationFrame_words_length]
  rfl

theorem State.startAttempt_lost (s : State) (f : StationFrame) (arbRead : BitVec 9) (restMatches : Bool) (groups : Nat)
    (hm : s.line.mayStart = true) (ho : s.offer = some f)
    (harb : arbitrate (f.arbitration s.line.strap) arbRead restMatches = .lost) :
    s.startAttempt arbRead restMatches groups =
      { s with line := { s.line with
          phase := .frame, endSlot := some (s.now + groups * 200), transmit := none
          role := .none, queue := s.line.queue.change (stationKindOf f) .lose } } := by
  rw [s.startAttempt_offers f arbRead restMatches groups _ hm ho harb,
    ← s.line.queue.change_offer_lose (stationKindOf f)]
  rfl

theorem State.startAttempt_mismatch (s : State) (f : StationFrame) (arbRead : BitVec 9) (restMatches : Bool)
    (groups : Nat) (hm : s.line.mayStart = true) (ho : s.offer = some f)
    (harb : arbitrate (f.arbitration s.line.strap) arbRead restMatches = .mismatch) :
    s.startAttempt arbRead restMatches groups =
      { s with line := { s.line with
          phase := .frame, endSlot := some (s.now + groups * 200), transmit := some f
          role := .aborting, queue := s.line.queue.change (stationKindOf f) .offer } } := by
  rw [s.startAttempt_offers f arbRead restMatches groups _ hm ho harb]
  rfl

theorem State.hearStart_idle (s : State) (groups : Nat) (h : s.line.phase = .idle) :
    s.hearStart groups =
      { s with line := { s.line with phase := .frame, endSlot := some (s.now + groups * 200) } } := by
  rw [State.hearStart, h]
  rfl

theorem State.hearStart_joining (s : State) (groups : Nat) (h : s.line.phase = .joining) :
    s.hearStart groups = s.dominant (s.now + (groups - 1) * 200 + 8) := by
  rw [State.hearStart, h]
  rfl

/-- R76: within a frame and its gap no party starts a frame. -/
theorem State.hearStart_other (s : State) (groups : Nat) (hi : s.line.phase ≠ .idle) (hj : s.line.phase ≠ .joining) :
    s.hearStart groups = s := by
  unfold State.hearStart
  split <;> first | contradiction | rfl

/-! ## An aborted frame (R76, R78, R88, R89, R91) -/

theorem LineInterface.drivesAbort_eq (l : LineInterface) :
    l.drivesAbort = decide (l.link = .normal ∧ l.receive.bad = true ∨ l.role = .aborting) := by
  rw [Bool.eq_iff_iff]
  simp [LineInterface.drivesAbort]

/-- R76, R78: the gap follows an aborted frame, and the attempt on the line has failed. -/
theorem State.abortFrame_gap (s : State) (groups : List Group) (line : LineInterface) (hp : s.line.phase ≠ .joining)
    (hline : line = { s.line with
      phase := .gap, endSlot := none, gapEnd := some (s.now + 24), receive := { words := [], bad := false }
      abortDriven := decide (s.line.link = .normal ∧ frameBad groups = true ∨ s.line.role = .aborting) }) :
    s.abortFrame groups = State.failOwnAttempt { s with line := line } := by
  rw [State.abortFrame, if_neg hp]
  dsimp only
  rw [LineInterface.drivesAbort_eq, hline]
  rfl

theorem State.failOwnAttempt_none (s : State) (h : s.line.role = .none ∨ s.line.role = .contending) :
    s.failOwnAttempt = s := by
  rcases h with h | h <;> simp only [State.failOwnAttempt, h]

theorem State.failOwnAttempt_fails (s : State) (f : StationFrame) (h : s.line.role = .sending ∨ s.line.role = .aborting)
    (ht : s.line.transmit = some f) : s.failOwnAttempt = s.failAttempt f := by
  rcases h with h | h <;> simp only [State.failOwnAttempt, h, ht]

/-- R89: a failed attempt below the sixteenth. -/
theorem State.failAttempt_counts (s : State) (f : StationFrame) (q : OutQueue)
    (hq : q = s.line.queue.change (stationKindOf f) .fail) (h : q.fails (stationKindOf f) < 16) :
    s.failAttempt f = { s with line := { s.line with transmit := none, role := .none, queue := q } } := by
  subst hq
  exact if_neg (Nat.not_le.2 h)

/-- R91: the sixteenth failed attempt. -/
theorem State.failAttempt_faults (s : State) (f : StationFrame) (q : OutQueue)
    (hq : q = s.line.queue.change (stationKindOf f) .fail) (h : 16 ≤ q.fails (stationKindOf f)) :
    s.failAttempt f =
      { s with line := { s.line with
          transmit := none, role := .none, link := .linkFault, queue := s.emptiedQueue } } := by
  subst hq
  exact (if_pos h).trans (State.enterLinkFault_eq _)

/-! ## Frames that are not for the station (R79, R80, R92, R93) -/

theorem LineInterface.joined_iff (l : LineInterface) (t : Nat) :
    l.joined t = true ↔ l.phase = .joining ∧ l.recessiveSince + 240 ≤ t := by
  rw [LineInterface.joined, Bool.and_eq_true, beq_iff_eq, decide_eq_true_iff]
  rfl

/-- A MALFORMED_FRAME acts on the state in which it reaches the station. -/
theorem exec_malformedFrame (s u : State) (after : Nat) (groups : List Group) (h : s.reaches after u) :
    exec (.malformedFrame after groups) s = .next (u.takeMalformed groups) :=
  s.atEvent_reaches u after (fun t => t.takeMalformed groups) h

/-- R78: at a NORMAL station, which drives the abort mark itself, bad groups without one are no event (log 18). -/
theorem State.takeMalformed_normal (s : State) (groups : List Group) (hb : frameBad groups = true)
    (hl : s.line.link = .normal) (hp : s.line.phase ≠ .joining) : s.takeMalformed groups = s := by
  rw [State.takeMalformed, if_pos hb, State.missFrame, if_pos ⟨hl, hp⟩]

/-- R79: any other station misses the frame. -/
theorem State.takeMalformed_missed (s : State) (groups : List Group) (hb : frameBad groups = true)
    (h : s.line.phase = .joining ∨ s.line.link ≠ .normal) : s.takeMalformed groups = s.passFrame groups id := by
  rw [State.takeMalformed, if_pos hb, State.missFrame, if_neg]
  rintro ⟨hl, hp⟩
  exact h.elim hp fun hn => hn hl

/-- R82, R163: groups that are not bad and spell no command. -/
theorem State.takeMalformed_ignored (s : State) (groups : List Group) (hb : frameBad groups = false)
    (hc : commandOf 0 (groups.map Prod.fst) = none) : s.takeMalformed groups = s.ignoreFrame groups := by
  simp only [State.takeMalformed, hb, hc, Option.isSome_none, Bool.false_eq_true, if_false]

/-- R80, R93: what spells no command passes like any frame where the station takes none. -/
theorem State.takeMalformed_passes (s : State) (groups : List Group)
    (h : frameBad groups = true ∨ commandOf 0 (groups.map Prod.fst) = none)
    (hs : s.line.phase = .joining ∨ s.line.link ≠ .normal) : ∃ f, s.takeMalformed groups = s.passFrame groups f := by
  cases hb : frameBad groups with
  | true => exact ⟨_, s.takeMalformed_missed groups hb hs⟩
  | false => exact ⟨_, s.takeMalformed_ignored groups hb (by simpa [hb] using h)⟩

theorem State.passFrame_heard (s : State) (groups : List Group) (f : State → State) (hj : s.line.phase = .joining) :
    s.passFrame groups f = s.heard groups :=
  if_pos hj

theorem State.passFrame_line (s : State) (groups : List Group) (f : State → State) (hj : s.line.phase ≠ .joining)
    (hl : s.line.link = .strapFault) : s.passFrame groups f = s.afterFrame := by
  rw [State.passFrame, if_neg hj, if_pos hl, State.frameEnds_eq]

theorem State.passFrame_acts (s : State) (groups : List Group) (f : State → State) (h : s.onLine) :
    s.passFrame groups f = f s.afterFrame := by
  rw [State.passFrame, if_neg h.1, if_neg h.2, State.frameEnds_eq]

theorem State.foreignOwn_enters (s : State) (h : s.line.link = .normal ∨ s.line.link = .linkFault) :
    s.foreignOwn = s.duplicated := by
  rw [State.foreignOwn, if_pos h, State.enterDuplicate_eq]

theorem State.foreignOwn_duplicate (s : State) (h : s.line.link = .duplicate) : s.foreignOwn = s := by
  simp [State.foreignOwn, h]

/-- R92: a frame that spells no command is ignored, but for the own position. -/
theorem State.ignoreFrame_acts (s : State) (groups : List Group) (h : s.onLine) :
    s.ignoreFrame groups =
      if sourceOf (groups.map Prod.fst) = s.afterFrame.line.strap then s.afterFrame.foreignOwn else s.afterFrame :=
  s.passFrame_acts groups _ h

theorem LineInterface.sends_iff (l : LineInterface) (f : StationFrame) :
    l.sends f = true ↔ l.role = .sending ∧ l.transmit = some f := by
  simp [LineInterface.sends]

/-- R92: a station frame that bears the own position and is not the one on the way. -/
theorem State.deliver_foreign (s : State) (source : Position) (f : StationFrame) (act : State → State)
    (hs : source = s.line.strap)
    (hn : ¬(stationFrameFits f source = true ∧ s.line.role = .sending ∧ s.line.transmit = some f)) :
    s.deliver source f act = s.foreignOwn := by
  rw [State.deliver, if_pos hs, if_neg]
  rwa [Bool.and_eq_true, LineInterface.sends_iff]

/-- A station frame command acts as its frame is taken (R79, R84, R89, R92). -/
theorem exec_eq_takeStation (c : Instr) (after : Nat) (source : Position) (f : StationFrame) (s : State)
    (hf : stationFrameOf c = some (after, source, f)) :
    ∃ act, exec c s = s.atEvent after fun t => t.takeStation source f act := by
  cases c <;> simp only [stationFrameOf, Option.some.injEq, Prod.mk.injEq, reduceCtorEq] at hf
  all_goals
    obtain ⟨rfl, rfl, rfl⟩ := hf
    exact ⟨_, rfl⟩

end Sys2Proof.Machine

open Sys2Proof Sys2Proof.Machine

/-- Settles O26: the entries in the order of service; the change of one kind, and what it does to an entry. -/
theorem queueOffersByPriority : Obligations.QueueOffersByPriority := by
  unfold Obligations.QueueOffersByPriority
  refine ⟨?_, fun q c => ⟨rfl, rfl, rfl, rfl, rfl, rfl, rfl, fun α e => ⟨rfl, rfl, fun ho => ?_, fun ho => ?_⟩⟩⟩
  · rintro s _ rfl
    refine ⟨fun e h1 => ?_, fun e h1 h2 => ?_, fun e h1 h2 h3 => ?_, fun e h1 h2 h3 h4 => ?_,
      fun e h1 h2 h3 h4 h5 => ?_, fun e h1 h2 h3 h4 h5 h6 => ?_, fun e h1 h2 h3 h4 h5 h6 h7 => ?_, fun hq => ?_⟩
    · simp only [State.offer, h1]
    · simp only [State.offer, h1, h2]
    · simp only [State.offer, h1, h2, h3, DoneFrame.toFrame]
    · simp only [State.offer, h1, h2, h3, h4]
    · simp only [State.offer, h1, h2, h3, h4, h5]
    · simp only [State.offer, h1, h2, h3, h4, h5, h6]
    · have hcontents : s.offer = some (.reply (s.replyPayload e.frame)) := by
        simp only [State.offer, h1, h2, h3, h4, h5, h6, h7, Option.map_some]
      exact hcontents
    · simp only [State.offer, hq, OutQueue.empty, Option.map_none]
  · exact ⟨congrArg some (if_pos ho), if_pos ho⟩
  · simp [EntryChange.apply, ho]

/-- Settles O27: a start bit of another party by the line phase, the own one by what reads back. -/
theorem attemptStartContends : Obligations.AttemptStartContends := by
  unfold Obligations.AttemptStartContends
  intro after groups arbRead sent restMatches s u f kind h
  have hown : exec (.attemptStart after (.own arbRead restMatches) groups) s =
      .next (u.startAttempt arbRead restMatches groups) :=
    s.atEvent_reaches u after (fun t => t.takeStart (.own arbRead restMatches) groups) h
  have hpeer : exec (.attemptStart after .peer groups) s = .next (u.hearStart groups) :=
    s.atEvent_reaches u after (fun t => t.takeStart .peer groups) h
  rw [hown, hpeer]
  refine ⟨fun hno => ?_, fun hp => ?_, fun hp => ?_, fun hi hj => ?_, fun hl hp hr ho hk hs => ?_⟩
  · rw [u.startAttempt_refused _ _ _ hno]
  · rw [u.hearStart_idle groups hp]
  · rw [u.hearStart_joining groups hp]
  · rw [u.hearStart_other groups hi hj]
  · have hm : u.line.mayStart = true := u.line.mayStart_iff.2 ⟨hl, hp, hr⟩
    have harb : f.arbitration u.line.strap = sent := hs.symm
    subst hk
    refine ⟨fun hread hrest => ?_, fun hlt => ?_, fun hdiff => ?_⟩
    · rw [u.startAttempt_won f _ _ _ hm ho (by rw [harb, hread, hrest, arbitrate_won])]
    · rw [u.startAttempt_lost f _ _ _ hm ho (by rw [harb, arbitrate_lost _ _ _ hlt])]
    · rw [u.startAttempt_mismatch f _ _ _ hm ho (by rw [harb, arbitrate_mismatch _ _ _ hdiff])]

/-- Settles O28: the gap, then the attempt of this station, if it has one: below the sixteenth failure and at it. -/
theorem abortedFrameCountsFailure : Obligations.AbortedFrameCountsFailure := by
  unfold Obligations.AbortedFrameCountsFailure
  intro after groups s u line h
  have hexec : exec (.frameAborted after groups) s = .next (u.abortFrame groups) :=
    s.atEvent_reaches u after (fun t => t.abortFrame groups) h
  rw [hexec]
  refine ⟨fun hj => congrArg _ (if_pos hj), fun hj hline => ?_⟩
  rw [u.abortFrame_gap groups line hj hline]
  have hrole : line.role = u.line.role := by rw [hline]
  have htransmit : line.transmit = u.line.transmit := by rw [hline]
  have hqueue : line.queue = u.line.queue := by rw [hline]
  refine ⟨fun hr => ?_, fun f q hr ht hq => ?_⟩
  · rw [State.failOwnAttempt_none _ (by rwa [hrole])]
  · rw [State.failOwnAttempt_fails _ f (by rwa [hrole]) (by rwa [htransmit])]
    refine ⟨fun hlt => ?_, fun hge => ?_⟩
    · rw [State.failAttempt_counts _ f q (by rwa [hqueue]) hlt]
    · rw [State.failAttempt_faults _ f q (by rwa [hqueue]) hge]
      rfl

/-- Settles O29: bad groups, groups that spell no command, and a station frame of the own position. -/
theorem foreignOwnPositionMakesDuplicate : Obligations.ForeignOwnPositionMakesDuplicate := by
  unfold Obligations.ForeignOwnPositionMakesDuplicate
  refine ⟨fun after groups words s u h hw => ?_, fun c after source f s u hf h hs hn => ?_⟩
  · obtain ⟨hr, hon, hu⟩ := h
    rw [exec_malformedFrame s (s.elapse after) after groups ⟨hr, rfl⟩]
    refine ⟨fun hb => ⟨fun hl => ?_, fun hl => ?_⟩, fun hb hno => ?_⟩
    · rw [State.takeMalformed_missed _ groups hb (.inr (by rwa [hu] at hl)), State.passFrame_acts _ groups id hon, hu]
      rfl
    · rw [State.takeMalformed_normal _ groups hb (by rwa [hu] at hl) hon.1]
    · have hc : commandOf 0 (groups.map Prod.fst) = none := by
        rw [← hw]
        rcases hno with hbad | ⟨w1, w2, w3, rfl, _, hk, hrecord⟩
        · exact commandOf_malformed 0 words hbad
        · exact commandOf_queryOfNoRecord 0 w1 w2 w3 hk hrecord
      rw [State.takeMalformed_ignored _ groups hb hc, State.ignoreFrame_acts _ groups hon, ← hu, ← hw]
      refine ⟨fun hs => ?_, fun hs hl => ?_, fun hs hl => ?_⟩
      · rw [if_neg hs]
      · rw [if_pos hs, u.foreignOwn_enters hl]
      · rw [if_pos hs, u.foreignOwn_duplicate hl]
  · obtain ⟨act, hexec⟩ := exec_eq_takeStation c after source f s hf
    rw [hexec, show (s.atEvent after fun t => t.takeStation source f act) = .next (u.deliver source f act) from
      s.takeFrame_takes u after _ _ h, u.deliver_foreign source f act hs hn]
    exact ⟨fun hl => by rw [u.foreignOwn_enters hl], fun hl => by rw [u.foreignOwn_duplicate hl]⟩

/-- Settles O30: the end of JOINING, the frames that pass a station on its line alone, and a selector of others. -/
theorem framesNotForTheStation : Obligations.FramesNotForTheStation := by
  unfold Obligations.FramesNotForTheStation
  refine ⟨fun after s u h => ?_, fun c words s u h hw => ?_, fun after groups s u h hno => ?_,
    fun after sel s u h => ?_⟩
  · have hexec : exec (.joiningEnd after) s = .next u.endJoining := s.atEvent_reaches u after _ h
    rw [hexec]
    refine ⟨fun hj ht => congrArg _ (if_pos ((u.line.joined_iff u.now).2 ⟨hj, ht⟩)), fun hno => congrArg _ (if_neg ?_)⟩
    rw [u.line.joined_iff u.now]
    rintro ⟨hj, ht⟩
    exact hno.elim (fun hn => hn hj) fun hlt => Nat.not_lt.2 ht hlt
  · obtain ⟨f, hexec⟩ := exec_eq_passFrame c words s hw
    rw [hexec]
    exact ⟨s.passFrame_joining u _ _ f h, s.passFrame_strapFault u _ _ f h⟩
  · rw [exec_malformedFrame s u after groups h]
    refine ⟨fun hj => ?_, fun hj hl => ?_⟩
    · obtain ⟨f, hf⟩ := u.takeMalformed_passes groups hno (.inl hj)
      rw [hf, u.passFrame_heard groups f hj]
    · obtain ⟨f, hf⟩ := u.takeMalformed_passes groups hno (.inr (by simp [hl]))
      rw [hf, u.passFrame_line groups f hj hl]
  · have hother : ∀ words f, (s.atEvent after fun t => t.takeConsole words sel f) = .next u := fun words f =>
      s.takeConsole_other u after words sel f h
    exact ⟨fun _ => hother _ _, fun _ => hother _ _, fun _ _ => hother _ _, fun _ _ => hother _ _, hother _ _,
      hother _ _, hother _ _, fun _ => hother _ _, hother _ _, hother _ _, hother _ _⟩

/-- Settles O31: a QUERY that matches queues its entry; a REPLY acts on nothing once it is taken. -/
theorem queriesQueueReplies : Obligations.QueriesQueueReplies := by
  unfold Obligations.QueriesQueueReplies
  refine ⟨fun after sel s u h asked hasked => ?_,
    fun after source payload s u h => s.takeStation_any u after source _ _ h⟩
  have hqueues : ∀ words kind slot,
      (s.atEvent after fun t => t.takeConsole words sel fun v => v.queueReply kind slot) = .next (asked kind slot) :=
    fun words kind slot => by
      rw [s.takeConsole_matching u after words sel _ h, hasked, State.queueReply,
        u.request_onLine _ (s.takes_link u after h.1)]
      rfl
  exact ⟨hqueues _ .status 0, fun slot => hqueues _ .result slot, hqueues _ .closure 0, hqueues _ .selftest 0,
    hqueues _ .roster 0⟩

end

section
/-! The obligations on the local timers and on the end of WAKING (O20, O22). -/

namespace Sys2Proof.Machine

/-! ## The local timers (R100, R115, R118, R152) -/

/-- R115, R118: the state once a LAPSE is queued. -/
def State.lapses (s : State) (k : StepIx) (p : LapsePhase) : State :=
  { s with line := { s.line with
      queue := { s.line.queue with
        lapse := some { frame := { step := k, phase := p }, fails := 0, offered := false } } } }

theorem State.queueLapse_onLine (s : State) (k : StepIx) (p : LapsePhase) (h : s.line.link ≠ .strapFault) :
    s.queueLapse k p = s.lapses k p :=
  s.request_onLine _ h

/-- R118: the gather timer runs out in step k. -/
theorem State.expireGather_step (s : State) (k : StepIx) (hk : s.coord.step = some k) (hl : s.line.link ≠ .strapFault) :
    s.expireGather = (s.lapses k .gather).mapCoord fun c => { c with gatherEnd := none } := by
  simp only [State.expireGather, hk, s.queueLapse_onLine k _ hl]

/-- R115: the deadline passes in step k. -/
theorem State.expireDeadline_step (s : State) (k : StepIx) (hk : s.coord.step = some k)
    (hl : s.line.link ≠ .strapFault) :
    s.expireDeadline = (s.lapses k .measure).mapCoord fun c => { c with expired := true } := by
  simp only [State.expireDeadline, hk, s.queueLapse_onLine k _ hl]

/-- R118: in GATHERING the gather timer runs out at its end time. -/
theorem Coordinator.gatherDue_gathering (c : Coordinator) (h : c.run = .gathering) : c.gatherDue = c.gatherEnd :=
  if_pos h

/-- R115: the deadline of a step that has triggered is to pass until the expiry mark is set. -/
theorem Coordinator.deadlineDue_clear (c : Coordinator) (hr : c.run.triggered = true) (he : c.expired = false) :
    c.deadlineDue = c.deadline := by
  rw [Coordinator.deadlineDue, hr, he]
  rfl

theorem Coordinator.deadlineDue_expired (c : Coordinator) (he : c.expired = true) : c.deadlineDue = none := by
  rw [Coordinator.deadlineDue, he, Bool.not_true, Bool.and_false]
  rfl

/-- R152: the parked dwell is over 500 ms after its start. -/
theorem PowerUnit.parkedDue_eq (p : PowerUnit) (t : Nat) (hp : p.state = .parked) (ht : p.parkedSince = some t) :
    p.parkedDue = some (t + 500_000) := by
  rw [PowerUnit.parkedDue, if_pos hp, ht]
  rfl

/-- R97, R100, R103: the way home of an enrollment that started from CLOSING. -/
theorem State.toHome_closing (s : State) (h : s.coord.home = some .closing) :
    s.toHome = { s with coord := { s.coord with run := .closing } } := by
  rw [State.toHome, h]
  rfl

/-- R97, R100, R103: the way home of an enrollment that started from LOADED. -/
theorem State.toHome_loaded (s : State) (h : s.coord.home = some .loaded) :
    s.toHome = { s with coord := { s.coord with run := .loaded, step := none } } := by
  rw [State.toHome, h]
  rfl

/-! ## The end of WAKING (R99, R143, R155, R159) -/

theorem periodGood_iff (p : Option Nat) : periodGood p = true ↔ ∃ a, p = some a ∧ 3_800 ≤ a ∧ a ≤ 4_200 := by
  cases p with
  | none => simp [periodGood]
  | some x =>
    rw [periodGood, Bool.and_eq_true, decide_eq_true_eq, decide_eq_true_eq]
    simp [Config.selfTestShortest, Config.selfTestLongest]

/-- R155: exactly 20 pulses, and both periods within bounds. -/
theorem Tally.passes_iff (t : Tally) :
    t.passes = true ↔ t.count = 20 ∧ ∃ a b, t.smallest = some a ∧ t.largest = some b
      ∧ 3_800 ≤ a ∧ a ≤ 4_200 ∧ 3_800 ≤ b ∧ b ≤ 4_200 := by
  simp only [Tally.passes, Bool.and_eq_true, beq_iff_eq, periodGood_iff, Config.loopPulses]
  constructor
  · rintro ⟨⟨hc, a, ha, ha1, ha2⟩, b, hb, hb1, hb2⟩
    exact ⟨hc, a, b, ha, hb, ha1, ha2, hb1, hb2⟩
  · rintro ⟨hc, a, b, ha, hb, ha1, ha2, hb1, hb2⟩
    exact ⟨⟨hc, a, ha, ha1, ha2⟩, b, hb, hb1, hb2⟩

/-- R159: the self-test record of a WAKING that ends with a tally. -/
def State.selfTestOf (s : State) (t : Tally) (passed : Bool) : SelfTestRecord :=
  { passed := passed, count := t.count, smallest := t.smallest, largest := t.largest, refSeen := s.front.refSeen,
    endedAt := s.now }

theorem State.selfTestRecord_eq (s : State) (t : Tally) :
    selfTestRecord t s.front.refSeen s.now = s.selfTestOf t t.passes := rfl

/-- R143, R155: a self-test that passes, before a remembered MUSTER is settled. -/
theorem State.endWaking_passes (s : State) (t : Tally) (ht : s.power.tally = some t) (hp : t.passes = true) :
    s.endWaking = State.settleMuster
      { s with
        power := { s.power with
          state := .awake, wakeStart := none, tally := none, selfTest := some (s.selfTestOf t true) }
        closure := { s.closure with caln := .asserted } } := by
  rw [State.endWaking, ht, Option.getD_some, State.judgeSelfTest, s.selfTestRecord_eq, hp]
  rfl

/-- R143, R155: a self-test that fails, before a remembered MUSTER is dropped. -/
theorem State.endWaking_fails (s : State) (t : Tally) (ht : s.power.tally = some t) (hp : t.passes = false)
    (hl : s.line.link ≠ .strapFault) :
    s.endWaking = State.dropMuster
      (State.tells
        { s with
          power := { s.power with
            state := .headFault, wakeStart := none, tally := none, hdpw := false
            selfTest := some (s.selfTestOf t false) }
          closure := { s.closure with caln := .released } } .headFault) := by
  rw [State.endWaking, ht, Option.getD_some, State.judgeSelfTest, s.selfTestRecord_eq, hp]
  exact congrArg State.dropMuster (State.queueParked_onLine _ _ hl)

/-- R99: what a remembered MUSTER must still fit. -/
theorem State.rememberedFits_iff (s : State) (m : MusterCall) (hm : s.coord.remembered = some m) :
    s.rememberedFits = true ↔
      s.coord.run = .loaded ∧ m.plan = s.plan.number ∧ m.count.toNat = s.plan.length := by
  simp only [State.rememberedFits, hm, Bool.and_eq_true, beq_iff_eq, and_assoc]

/-- R99: with no MUSTER remembered none is settled. -/
theorem State.settleMuster_none (s : State) (h : s.coord.stage ≠ .remembered) : s.settleMuster = s := if_neg h

/-- R99: a remembered MUSTER that fits waits for its PRESENT. -/
theorem State.settleMuster_fits (s : State) (hs : s.coord.stage = .remembered) (hf : s.rememberedFits = true)
    (hl : s.line.link ≠ .strapFault) :
    s.settleMuster =
      { s with
        coord := { s.coord with stage := .awaiting, remembered := none }
        line := { s.line with
          queue := { s.line.queue with
            present := some { frame := s.plan.number, fails := 0, offered := false } } } } := by
  rw [State.settleMuster, if_pos hs, if_pos hf, State.queuePresent, s.request_onLine _ hl]
  rfl

/-- R99: a remembered MUSTER that fits no more is dropped. -/
theorem State.settleMuster_drops (s : State) (hs : s.coord.stage = .remembered) (hf : ¬s.rememberedFits = true) :
    s.settleMuster = s.unenrolled := by
  rw [State.settleMuster, if_pos hs, if_neg hf, s.endEnrollment_eq]

/-- R99: with no MUSTER remembered none is dropped. -/
theorem State.dropMuster_none (s : State) (h : s.coord.stage ≠ .remembered) : s.dropMuster = s := if_neg h

theorem State.dropMuster_remembered (s : State) (h : s.coord.stage = .remembered) : s.dropMuster = s.unenrolled :=
  if_pos h

end Sys2Proof.Machine

open Sys2Proof Sys2Proof.Machine

/-- Settles O20, timer by timer; the muster window by the run state and then the home state. -/
theorem localTimersRunOut : Obligations.LocalTimersRunOut := by
  unfold Obligations.LocalTimersRunOut
  refine ⟨fun s u k hl hk => ⟨fun h => ?_, fun h => ?_, s.coord.gatherDue_gathering, fun hr he => ?_,
      s.coord.deadlineDue_expired⟩,
    fun s u h => ?_, fun s u h => s.atLocal_meets u _ h, fun s u h => ?_, fun s first dwellEnd hp => ?_,
    fun s t hp ht => s.power.parkedDue_eq t hp ht⟩
  · rw [show exec .gatherTimerExpiry s = .next u.expireGather from s.atLocal_meets u _ h,
      u.expireGather_step k hk hl]
    rfl
  · rw [show exec .stepDeadlineExpiry s = .next u.expireDeadline from s.atLocal_meets u _ h,
      u.expireDeadline_step k hk hl]
    rfl
  · exact s.coord.deadlineDue_clear ((RunState.triggered_iff _).2 hr) he
  · rw [show exec .musterWindowExpiry s = .next u.expireWindow from s.atLocal_meets u _ h, State.expireWindow]
    refine ⟨fun hr => ?_, fun hr hh => ?_, fun hr hh => ?_⟩
    · rw [if_neg hr, u.endEnrollment_eq]
    · rw [if_pos hr, u.toHome_closing hh]
      rfl
    · rw [if_pos hr, u.toHome_loaded hh]
      rfl
  · rw [show exec .parkedDwellEnd s = .next u.endParkedDwell from s.atLocal_meets u _ h, State.endParkedDwell]
    refine ⟨fun hc => ?_, fun hc => ?_⟩
    · rw [hc]
      rfl
    · rw [hc]
      rfl
  · change s.closure.press.dwellDue = _
    rw [hp]
    rfl

/-- Settles O22, by the outcome of the self-test and then by the MUSTER that is remembered. -/
theorem wakingEndJudgesSelfTest : Obligations.WakingEndJudgesSelfTest := by
  unfold Obligations.WakingEndJudgesSelfTest
  intro s u t rec pass parkedEntry h hl ht hrec hpass hentry awake fault hawake hfault
  have hexec : exec .wakingEnd s = .next u.endWaking := s.atLocal_meets u _ h
  have hjudge : pass ↔ t.passes = true := hpass.trans t.passes_iff.symm
  have hrecord : ∀ b, rec b = u.selfTestOf t b := hrec
  have hpassed : pass → exec .wakingEnd s = .next awake.settleMuster := fun hp => by
    rw [hexec, u.endWaking_passes t ht (hjudge.1 hp), ← hrecord, ← hawake]
  have hfailed : ¬pass → exec .wakingEnd s = .next fault.dropMuster := fun hp => by
    rw [hexec, u.endWaking_fails t ht (Bool.eq_false_iff.2 (mt hjudge.2 hp)) hl, ← hrecord, hfault, hentry]
    rfl
  have hawakeCoord : awake.coord = u.coord := by rw [hawake]
  have hfaultCoord : fault.coord = u.coord := by rw [hfault]
  refine ⟨fun hp hs => ?_, fun m hp hs hm => ?_, fun hp hs => ?_, fun hp hs => ?_⟩
  · rw [hpassed hp, awake.settleMuster_none (by rwa [hawakeCoord])]
  · have hawakeStage : awake.coord.stage = .remembered := by rwa [hawakeCoord]
    have hfits : awake.rememberedFits = true ↔
        u.coord.run = .loaded ∧ m.plan = u.plan.number ∧ m.count.toNat = u.plan.length := by
      rw [awake.rememberedFits_iff m (by rwa [hawakeCoord]), hawake]
    rw [hpassed hp]
    refine ⟨fun hf => ?_, fun hf => ?_⟩
    · rw [awake.settleMuster_fits hawakeStage (hfits.2 hf) (by rwa [hawake]), hawake]
    · rw [awake.settleMuster_drops hawakeStage (mt hfits.1 hf)]
  · rw [hfailed hp, fault.dropMuster_none (by rwa [hfaultCoord])]
  · rw [hfailed hp, fault.dropMuster_remembered (by rwa [hfaultCoord])]

end

section
/-! The obligations on MUSTER, PRESENT and RUN (O35, O36, O45). -/

namespace Sys2Proof.Machine

/-! ## MUSTER (R97, R98) -/

theorem State.musterFits_iff (s : State) (n : BitVec 16) (c : BitVec 5) :
    s.musterFits n c = true ↔ n = s.plan.number ∧ c.toNat = s.plan.length := by
  rw [State.musterFits, Bool.and_eq_true, beq_iff_eq, beq_iff_eq]

theorem RunState.takesMuster_iff (r : RunState) :
    r.takesMuster = true ↔ r = .loaded ∨ r = .closing ∨ r = .enrolled := by
  cases r <;> simp [RunState.takesMuster]

/-- R97: an AWAKE station in a run state that takes a MUSTER enrolls. -/
theorem State.takeMuster_enrolls (s : State) (n : BitVec 16) (c : BitVec 5)
    (hf : n = s.plan.number ∧ c.toNat = s.plan.length) (hp : s.power.state = .awake)
    (hr : s.coord.run = .loaded ∨ s.coord.run = .closing ∨ s.coord.run = .enrolled) :
    s.takeMuster n c = s.enroll n := by
  simp only [State.takeMuster, (s.musterFits_iff n c).2 hf, hp, (RunState.takesMuster_iff _).2 hr, if_true]

/-- R98: a WAKING station in LOADED remembers a MUSTER. -/
theorem State.takeMuster_remembers (s : State) (n : BitVec 16) (c : BitVec 5)
    (hf : n = s.plan.number ∧ c.toNat = s.plan.length) (hp : s.power.state = .waking) (hr : s.coord.run = .loaded) :
    s.takeMuster n c = s.remember n c := by
  simp only [State.takeMuster, (s.musterFits_iff n c).2 hf, hp, hr, if_true]

/-- R97, R98, R160: a MUSTER that names another plan, or finds the station elsewhere, is ignored. -/
theorem State.takeMuster_ignored (s : State) (n : BitVec 16) (c : BitVec 5)
    (h : ¬(n = s.plan.number ∧ c.toNat = s.plan.length) ∨ s.power.state = .parked ∨ s.power.state = .headFault
      ∨ s.power.state = .awake ∧ ¬(s.coord.run = .loaded ∨ s.coord.run = .closing ∨ s.coord.run = .enrolled)
      ∨ s.power.state = .waking ∧ s.coord.run ≠ .loaded) :
    s.takeMuster n c = s := by
  by_cases hf : s.musterFits n c = true
  · rw [State.takeMuster, if_pos hf]
    rcases h with hno | hp | hp | ⟨hp, hr⟩ | ⟨hp, hr⟩
    · exact absurd ((s.musterFits_iff n c).1 hf) hno
    · simp only [hp]
    · simp only [hp]
    · simp only [hp]
      exact if_neg (mt (RunState.takesMuster_iff _).1 hr)
    · simp only [hp]
      exact if_neg hr
  · exact if_neg hf

/-- R97: an enrollment starts from the state `t` that the station is in once it has left ENROLLED. -/
theorem State.enroll_onLine (s t : State) (n : BitVec 16) (ht : s.leaveEnrolled = t) (hl : t.line.link ≠ .strapFault) :
    s.enroll n =
      { t with
        coord := { t.coord with
          roster := [], home := s.coord.homeAtMuster, windowEnd := some (s.now + 5_000_000), stage := .awaiting }
        line := { t.line with
          queue := { t.line.queue with present := some { frame := n, fails := 0, offered := false } } } } := by
  rw [State.enroll, ht, State.queuePresent, State.request_onLine _ _ (by exact hl)]
  rfl

/-- R97: outside ENROLLED there is nothing to leave. -/
theorem State.leaveEnrolled_other (s : State) (h : s.coord.run ≠ .enrolled) : s.leaveEnrolled = s := if_neg h

theorem State.leaveEnrolled_enrolled (s : State) (h : s.coord.run = .enrolled) : s.leaveEnrolled = s.toHome := if_pos h

/-! ## PRESENT (R95, R96) -/

theorem Coordinator.collecting_iff (c : Coordinator) :
    c.collecting = true ↔ c.stage ≠ .none ∨ c.run = .enrolled := by
  simp [Coordinator.collecting]

/-- R95: in a roster in ascending order every entry lies below all that follow it. -/
theorem pairwise_of_ascending (l : List Member) (h : ascending l = true) :
    l.Pairwise fun m n => m.position < n.position := by
  induction l with
  | nil => exact .nil
  | cons m rest ih =>
    cases rest with
    | nil => exact List.pairwise_singleton _ _
    | cons n rest =>
      simp only [ascending, Bool.and_eq_true, decide_eq_true_eq] at h
      obtain ⟨hmn, hrest⟩ := h
      have hp := ih hrest
      refine List.pairwise_cons.2 ⟨fun x hx => ?_, hp⟩
      rcases List.mem_cons.1 hx with rfl | hx
      · exact hmn
      · exact BitVec.lt_trans hmn ((List.pairwise_cons.1 hp).1 x hx)

/-- R96: a position already listed stays as it is. -/
theorem enterRoster_listed (p : Position) (l : List Member) (h : l.Pairwise fun m n => m.position < n.position)
    (hp : l.any (fun m => m.position == p) = true) : enterRoster p l = l := by
  induction l with
  | nil => simp at hp
  | cons m rest ih =>
    obtain ⟨hlt, hrest⟩ := List.pairwise_cons.1 h
    rcases Bool.or_eq_true_iff.1 hp with hm | hr
    · rw [enterRoster, if_neg (by simp [beq_iff_eq.1 hm]), if_pos (beq_iff_eq.1 hm).symm]
    · obtain ⟨x, hx, hxp⟩ := List.any_eq_true.1 hr
      have hmp : m.position < p := beq_iff_eq.1 hxp ▸ hlt x hx
      rw [enterRoster, if_neg (by bv_omega), if_neg (by bv_omega), ih hrest hr]

/-- R95, R96: a position not listed joins between the entries below it and those above it. -/
theorem enterRoster_unlisted (p : Position) (l : List Member) (h : l.Pairwise fun m n => m.position < n.position)
    (hp : l.any (fun m => m.position == p) = false) :
    enterRoster p l =
      l.filter (fun m => m.position < p) ++ [Member.join p] ++ l.filter (fun m => p < m.position) := by
  induction l with
  | nil => rfl
  | cons m rest ih =>
    obtain ⟨hlt, hrest⟩ := List.pairwise_cons.1 h
    obtain ⟨hm, hr⟩ := Bool.or_eq_false_iff.1 hp
    have hne : m.position ≠ p := by simpa using hm
    by_cases hpm : p < m.position
    · have habove : ∀ x ∈ m :: rest, p < x.position := by
        intro x hx
        rcases List.mem_cons.1 hx with rfl | hx
        · exact hpm
        · exact BitVec.lt_trans hpm (hlt x hx)
      have hbelow : (m :: rest).filter (fun x => x.position < p) = [] :=
        List.filter_eq_nil_iff.2 fun x hx => by simpa using BitVec.le_of_lt (habove x hx)
      rw [enterRoster, if_pos hpm, hbelow, List.filter_eq_self.2 fun x hx => by simpa using habove x hx]
      rfl
    · have hmp : m.position < p := by bv_omega
      rw [enterRoster, if_neg hpm, if_neg hne.symm, ih hrest hr, List.filter_cons_of_pos (by simpa using hmp),
        List.filter_cons_of_neg (by simpa using hpm)]
      rfl

/-- R96: the plan number of the muster: that of a remembered MUSTER, else the stored one. -/
theorem State.presentPlan_eq (s : State) (number : BitVec 16)
    (hm : s.coord.stage = .remembered → s.coord.remembered.map (fun m => m.plan) = some number)
    (hs : s.coord.stage ≠ .remembered → s.plan.number = number) : s.presentPlan = number := by
  by_cases h : s.coord.stage = .remembered
  · obtain ⟨m, hr, rfl⟩ := Option.map_eq_some_iff.1 (hm h)
    simp only [State.presentPlan, h, hr]
  · rw [← hs h]
    unfold State.presentPlan
    split
    · rename_i hr _
      exact absurd hr h
    · rfl

/-- R96: a PRESENT of the muster in a collecting roster. -/
theorem State.takePresent_enters (s : State) (source : Position) (n : BitVec 16)
    (hc : s.coord.stage ≠ .none ∨ s.coord.run = .enrolled) (hn : n = s.presentPlan) :
    s.takePresent source n = (s.mapRoster (enterRoster source)).becomeEnrolled source := by
  rw [State.takePresent, if_pos]
  rw [(s.coord.collecting_iff).2 hc, Bool.true_and, beq_iff_eq, hn]

/-- R96: any other PRESENT is ignored. -/
theorem State.takePresent_ignored (s : State) (source : Position) (n : BitVec 16)
    (h : n ≠ s.presentPlan ∨ ¬(s.coord.stage ≠ .none ∨ s.coord.run = .enrolled)) : s.takePresent source n = s := by
  rw [State.takePresent, if_neg]
  rw [Bool.and_eq_true, Coordinator.collecting_iff, beq_iff_eq]
  rintro ⟨hc, hn⟩
  exact h.elim (fun hne => hne hn) fun hno => hno hc

/-! ## RUN (R101, R102) -/

/-- R101: the results of steps k..L are cleared, with their attempts kept. -/
theorem clearResultsFrom_eq (k : StepIx) (n : Nat) (t results : ResultTable)
    (h : ∀ i : Fin 16, results[i] = if k.val ≤ i.val ∧ i.val < n then (t[i]).emptied .none else t[i]) :
    clearResultsFrom k n t = results := by
  ext i hi
  have hi' := h ⟨i, hi⟩
  simp only [Fin.getElem_fin] at hi'
  rw [hi', clearResultsFrom, Vector.getElem_mapIdx]
  rfl

theorem stepOfNumber_stepNumber (k : StepIx) : stepOfNumber (stepNumber k) = some k := by
  have hk := k.isLt
  rw [stepOfNumber, dif_pos (by unfold stepNumber; omega)]
  rfl

/-- R101: the first step of a RUN lies in 1..L. -/
theorem State.firstStep_within (s : State) (first : BitVec 5) (k : StepIx) (hk : first.toNat = stepNumber k)
    (hl : stepNumber k ≤ s.plan.length) : s.firstStep first = some k := by
  rw [State.firstStep, hk, if_pos hl, stepOfNumber_stepNumber]

/-- R101: a RUN names no step of the plan. -/
theorem State.firstStep_outside (s : State) (first : BitVec 5) (h : first.toNat = 0 ∨ s.plan.length < first.toNat) :
    s.firstStep first = none := by
  unfold State.firstStep
  rcases h with h | h
  · rw [h]
    rfl
  · exact if_neg (Nat.not_le.2 h)

/-- R101: a RUN taken in ENROLLED with another plan number or with no step of the plan. -/
theorem State.runEnrolled_ignored (s : State) (n : BitVec 16) (first : BitVec 5)
    (h : n ≠ s.plan.number ∨ first.toNat = 0 ∨ s.plan.length < first.toNat) : s.runEnrolled n first = s := by
  unfold State.runEnrolled
  rcases h with h | h
  · cases s.firstStep first
    · rfl
    · exact if_neg h
  · rw [s.firstStep_outside first h]

end Sys2Proof.Machine

open Sys2Proof Sys2Proof.Machine

/-- Settles O35: the run state that an enrollment starts from, a remembered MUSTER, and the MUSTERs that are ignored. -/
theorem musterStartsEnrollment : Obligations.MusterStartsEnrollment := by
  unfold Obligations.MusterStartsEnrollment
  intro after sel n c s u v h hv
  subst hv
  have hl := s.takes_link u after h.1
  rw [show exec (.muster after sel n c) s = .next (u.takeMuster n c) from s.takeConsole_matching u after _ sel _ h]
  refine ⟨fun hf => ⟨fun hp hr => ?_, fun hp hr => ?_, fun hp hr hh => ?_, fun hp hr hh => ?_, fun hp hr => ?_⟩,
    fun hno => ?_⟩
  · rw [u.takeMuster_enrolls n c hf hp (.inl hr), u.enroll_onLine u n (u.leaveEnrolled_other (by simp [hr])) hl,
      Coordinator.homeAtMuster, hr]
  · rw [u.takeMuster_enrolls n c hf hp (.inr (.inl hr)),
      u.enroll_onLine u n (u.leaveEnrolled_other (by simp [hr])) hl, Coordinator.homeAtMuster, hr]
  · rw [u.takeMuster_enrolls n c hf hp (.inr (.inr hr)),
      u.enroll_onLine _ n ((u.leaveEnrolled_enrolled hr).trans (u.toHome_closing hh)) hl, Coordinator.homeAtMuster, hr]
  · rw [u.takeMuster_enrolls n c hf hp (.inr (.inr hr)),
      u.enroll_onLine _ n ((u.leaveEnrolled_enrolled hr).trans (u.toHome_loaded hh)) hl, Coordinator.homeAtMuster, hr]
  · rw [u.takeMuster_remembers n c hf hp hr]
    rfl
  · rw [u.takeMuster_ignored n c (by simpa only [not_or] using hno)]

/-- Settles O36: a RUN that fits, another RUN in ENROLLED, and a RUN in any other run state. -/
theorem runStartsGathering : Obligations.RunStartsGathering := by
  unfold Obligations.RunStartsGathering
  intro after sel n first s u h
  rw [show exec (.run after sel n first) s = .next (u.takeRun n first) from s.takeConsole_matching u after _ sel _ h,
    State.takeRun]
  refine ⟨fun k results hr hn hk hlen hresults => ?_, fun hr hno => ?_, fun hr => ?_⟩
  · rw [if_pos hr, State.runEnrolled, u.firstStep_within first k hk hlen]
    dsimp only
    rw [if_pos hn, State.beginRun, State.enterGathering_onLine _ _ (by exact s.takes_link u after h.1),
      ← clearResultsFrom_eq k u.plan.length u.coord.results results hresults]
    rfl
  · rw [if_pos hr, u.runEnrolled_ignored n first hno]
  · rw [if_neg hr, u.endMuster_eq]

/-- Settles O45: the roster once the sender has entered it, then whether the PRESENT is the station's own in AWAITING. -/
theorem presentEntersRoster : Obligations.PresentEntersRoster := by
  unfold Obligations.PresentEntersRoster
  intro after source n number s u roster h hsafe hremembered hstored hlisted hunlisted
  have hplan := u.presentPlan_eq number hremembered hstored
  have hasc := pairwise_of_ascending _ hsafe.1
  have hroster : enterRoster source u.coord.roster = roster := by
    cases hany : u.coord.roster.any fun m => m.position == source with
    | true => rw [enterRoster_listed _ _ hasc hany, hlisted hany]
    | false => rw [enterRoster_unlisted _ _ hasc hany, hunlisted hany, Member.join]
  rw [show exec (.present after source n) s = .next (u.takePresent source n) from
    s.takeStation_any u after source _ _ h]
  refine ⟨fun hc hn => ?_, fun hno => ?_⟩
  · rw [u.takePresent_enters source n hc (hn.trans hplan.symm), State.becomeEnrolled]
    refine ⟨fun hown => ?_, fun hother => ?_⟩
    · rw [if_pos (by exact hown), ← hroster]
      rfl
    · rw [if_neg (by exact hother), ← hroster]
      rfl
  · rw [u.takePresent_ignored source n (by rwa [hplan, not_or, not_not])]

end

section
/-! The obligations on strikes, DONE and CLOSE (O38, O41, O48). -/

namespace Sys2Proof.Machine

/-! ## Strikes (R95, R105 to R107, R160) -/

/-- R95: the roster is live in an enrollment, in ENROLLED and in a run. -/
theorem Coordinator.live_iff (c : Coordinator) :
    c.live = true ↔ c.stage ≠ .none ∨ c.run = .enrolled ∨ c.run.stepping = true := by
  simp [Coordinator.live, or_assoc]

/-- R105 to R107: what a frame that strikes positions does: to a roster that is kept nothing; in a live one the ACTIVE
entries it names are struck and a test of the step follows. -/
def State.strikes (s : State) (hit : Position → Bool) (reason : StrikeReason) : State :=
  if s.coord.live then (s.mapRoster (strikeWhere (fun m => hit m.position) reason)).testAfterStrike else s

/-- R105: a PARKED of a peer. -/
theorem State.takeParked_peer (s : State) (source : Position) (why : ParkedReason) (h : source ≠ s.line.strap) :
    s.takeParked source why = s.strikes (fun p => p == source) (ParkedReason.strike why) :=
  if_neg h

/-- R105, R160: the own PARKED. -/
theorem State.takeParked_own (s : State) (source : Position) (why : ParkedReason) (h : source = s.line.strap) :
    s.takeParked source why = s :=
  if_pos h

theorem State.strikes_kept (s : State) (hit : Position → Bool) (reason : StrikeReason) (h : ¬s.coord.live = true) :
    s.strikes hit reason = s :=
  if_neg h

/-- R105 to R107: in a live roster, with its entries struck, the test of the step follows. -/
theorem State.strikes_live (s : State) (hit : Position → Bool) (reason : StrikeReason) (struck : List Member)
    (h : s.coord.stage ≠ .none ∨ s.coord.run = .enrolled ∨ s.coord.run.stepping = true)
    (hs : struck = s.coord.roster.map fun m =>
      if m.standing = .active ∧ hit m.position = true then { m with standing := .struck reason } else m) :
    s.strikes hit reason = State.testAfterStrike { s with coord := { s.coord with roster := struck } } := by
  rw [State.strikes, if_pos (s.coord.live_iff.2 h), hs, ← strikeWhere_eq (fun m => hit m.position) reason]
  rfl

/-- R106, R107: a HALT or a RESET that does not match strikes the positions of its selector. -/
theorem exec_other_strikes (c : Instr) (s u : State) (after : Nat) (sel : Selector) (reason : StrikeReason)
    (h : s.takesOther after sel u)
    (hc : c = .halt after sel ∧ reason = .halt
      ∨ (c = .resetRun after sel ∨ c = .resetAll after sel) ∧ reason = .reset) :
    exec c s = .next (u.strikes sel.covers reason) := by
  rcases hc with ⟨rfl, rfl⟩ | ⟨rfl | rfl, rfl⟩ <;> exact s.takeSelective_other u after _ sel _ _ h

/-- R105: a PARKED of a peer strikes its sender. -/
theorem exec_parked_strikes (s u : State) (after : Nat) (source : Position) (why : ParkedReason)
    (h : s.takesPeer after source (.parked why) u) :
    exec (.parked after source why) s = .next (u.strikes (fun p => p == source) (ParkedReason.strike why)) := by
  rw [show exec (.parked after source why) s = .next (u.takeParked source why) from
    s.takeStation_peer u after source _ _ h, u.takeParked_peer source why h.2.2]

/-- R105 to R107: the test after a strike in GATHERING. -/
theorem State.testAfterStrike_gathering (s : State) (h : s.coord.run = .gathering) :
    s.testAfterStrike = s.triggerTest :=
  if_pos h

theorem State.testAfterStrike_other (s : State) (h : s.coord.run ≠ .gathering) : s.testAfterStrike = s.completionTest :=
  if_neg h

/-! ## DONE (R121, R122) -/

theorem State.takeDone_own (s : State) (source : Position) (k : StepIx) (v : Verdict) (h : source = s.line.strap) :
    s.takeDone source k v = s.takeOwnDone k v :=
  if_pos h

theorem State.takeDone_peer (s : State) (source : Position) (k : StepIx) (v : Verdict) (h : source ≠ s.line.strap) :
    s.takeDone source k v = s.takePeerDone source k v :=
  if_neg h

/-- R121: the state once the own DONE(k) is taken in MEASURING(k), before what follows from it. -/
def State.reports (s : State) (k : StepIx) (verdict : Verdict) : State :=
  { s with
    coord := { s.coord with
      run := .reported
      roster := s.coord.roster.map fun m =>
        if m.standing = .active ∧ m.position = s.line.strap then { m with phase := .reported verdict } else m }
    line := { s.line with
      queue := { s.line.queue with
        lapse := s.line.queue.lapse.filter fun e => e.frame != { step := k, phase := .measure } } } }

/-- A LAPSE is pending no more once it is withdrawn. -/
theorem OutQueue.lapse_withdrawn (q : OutQueue) (k : StepIx) (p : LapsePhase) :
    (if q.lapsePending k p then none else q.lapse) = q.lapse.filter fun e => e.frame != { step := k, phase := p } := by
  unfold OutQueue.lapsePending
  cases q.lapse with
  | none => rfl
  | some e => by_cases he : e.frame = { step := k, phase := p } <;> simp [he, Option.filter]

/-- R121: the own DONE(k) in MEASURING(k): a LAPSE is queued afresh where it is due, and the completion tested. -/
theorem State.takeOwnDone_reports (s : State) (k : StepIx) (verdict : Verdict) (hr : s.coord.run = .measuring)
    (hk : s.coord.step = some k) :
    s.takeOwnDone k verdict = ((s.reports k verdict).lapseAfresh k).completionTest := by
  rw [State.takeOwnDone, if_pos ⟨hr, hk⟩, State.reportOwn, State.withdrawLapse_eq, OutQueue.lapse_withdrawn,
    State.reports, ← setPhaseAt_eq]
  rfl

/-- R121: the own DONE acts in MEASURING alone, for the step in hand. -/
theorem State.takeOwnDone_other (s : State) (k : StepIx) (verdict : Verdict)
    (h : s.coord.run ≠ .measuring ∨ s.coord.step ≠ some k) : s.takeOwnDone k verdict = s :=
  if_neg fun ⟨hr, hk⟩ => h.elim (fun hno => hno hr) fun hno => hno hk

/-- R121: no LAPSE is queued afresh in a step that is complete, or whose deadline has not passed. -/
theorem State.lapseAfresh_none (s : State) (k : StepIx) (h : s.coord.expired = false ∨ everyReported s.coord.roster) :
    s.lapseAfresh k = s := by
  rw [State.lapseAfresh, if_neg]
  rw [Bool.and_eq_true, Bool.not_eq_true', Bool.eq_false_iff, Ne, allReported_iff]
  rintro ⟨he, hno⟩
  rcases h with h | h
  · simp [h] at he
  · exact hno h

theorem State.lapseAfresh_queues (s : State) (k : StepIx) (hl : s.line.link ≠ .strapFault)
    (he : s.coord.expired = true) (h : ¬everyReported s.coord.roster) : s.lapseAfresh k = s.lapses k .measure := by
  have hnot : allReported s.coord.roster = false := Bool.eq_false_iff.2 (mt (allReported_iff _).1 h)
  rw [State.lapseAfresh, he, hnot]
  exact s.queueLapse_onLine k _ hl

/-- R122: a peer's DONE from an ACTIVE member in a step that has triggered. -/
theorem State.takePeerDone_marks (s : State) (source : Position) (k : StepIx) (verdict : Verdict)
    (hr : s.coord.run.triggered = true) (hm : s.fromMember source k = true) :
    s.takePeerDone source k verdict = (s.mapRoster (setPhaseAt source (.reported verdict))).completionTest := by
  rw [State.takePeerDone, hr, hm]
  rfl

/-- R128: any other DONE of a peer is ignored. -/
theorem State.takePeerDone_other (s : State) (source : Position) (k : StepIx) (verdict : Verdict)
    (h : ¬(s.coord.run.triggered = true ∧ s.fromMember source k = true)) : s.takePeerDone source k verdict = s := by
  rw [State.takePeerDone, if_neg (by rwa [Bool.and_eq_true])]

/-- R89: the own frame bears the position of the straps. -/
theorem State.takesOwn_source (s u : State) (after : Nat) (source : Position) (f : StationFrame)
    (h : s.takesOwn after source f u) : source = u.line.strap := by
  obtain ⟨_, _, _, hs, _, _, rfl⟩ := h
  exact hs

/-! ## CLOSE (R136 to R141) -/

/-- R130, R136: the run verdict is PASS when results 1..L all hold PASS. -/
theorem runVerdictOf_eq_pass_iff (results : ResultTable) (n : Nat) :
    runVerdictOf results n = .pass ↔ ∀ v ∈ verdictList results n, v = .pass := by
  rw [verdictList, List.forall_mem_map]
  simp [runVerdictOf]

theorem runVerdictOf_eq_fail_iff (results : ResultTable) (n : Nat) :
    runVerdictOf results n = .fail ↔ ¬∀ v ∈ verdictList results n, v = .pass := by
  rw [← runVerdictOf_eq_pass_iff]
  cases runVerdictOf results n <;> simp

/-- R103: the sealing fields are none of those that the end of an enrollment changes. -/
theorem State.unmustered_sealed (s : State) (closure : ClosureUnit) (verdict : RunVerdict) :
    State.unmustered
        { s with closure := closure, coord := { s.coord with run := .closed, verdict := some verdict } } =
      { s.unmustered with
        closure := closure, coord := { s.unmustered.coord with run := .closed, verdict := some verdict } } := by
  by_cases hs : s.coord.stage = .none
  · simp only [State.unmustered, hs, if_true]
  · simp only [State.unmustered, hs, if_false]
    rfl

/-- R137: a CLOSE with run verdict PASS at an AWAKE station. -/
theorem State.closeRun_pass (s : State) (ha : s.power.state = .awake)
    (h : runVerdictOf s.coord.results s.plan.length = .pass) :
    s.closeRun =
      { s.unmustered with
        closure :=
          { record := some (s.closureRecordOf .pass .fired .released)
            press := .energised s.now (s.now + 400_000), caln := .released }
        coord := { s.unmustered.coord with run := .closed, verdict := some .pass } } := by
  have hpress : s.releaseCaln.energisePress =
      { s with closure := { s.closure with press := .energised s.now (s.now + 400_000), caln := .released } } :=
    if_pos ha
  simp only [State.closeRun, h, State.closePass, hpress]
  exact s.unmustered_sealed _ .pass

/-- R138: a CLOSE with run verdict FAIL. -/
theorem State.closeRun_fail (s : State) (h : runVerdictOf s.coord.results s.plan.length = .fail) :
    s.closeRun =
      { s.unmustered with
        closure := { s.closure with record := some (s.closureRecordOf .fail .notFired .held) }
        coord := { s.unmustered.coord with run := .closed, verdict := some .fail } } := by
  simp only [State.closeRun, h]
  exact s.unmustered_sealed _ .fail

/-- R136: a CLOSE in CLOSED. -/
theorem State.takeClose_closed (s : State) (h : s.coord.run = .closed) :
    s.takeClose = s.mapClosure fun c => { c with press := c.press.extend } := by
  simp only [State.takeClose, h]

theorem State.takeClose_closing (s : State) (h : s.coord.run = .closing) : s.takeClose = s.closeRun := by
  simp only [State.takeClose, h]

/-- R136: a CLOSE in any other run state. -/
theorem State.takeClose_other (s : State) (h1 : s.coord.run ≠ .closing) (h2 : s.coord.run ≠ .closed) :
    s.takeClose = s := by
  unfold State.takeClose
  split
  · rename_i h
    exact absurd h h1
  · rename_i h
    exact absurd h h2
  · rfl

/-- R141: a CLOSE that leaves the press as it is changes nothing. -/
theorem State.takeClose_stays (s : State) (h : s.coord.run = .closed) (hp : s.closure.press.extend = s.closure.press) :
    s.takeClose = s := by
  rw [s.takeClose_closed h, State.mapClosure, hp]

end Sys2Proof.Machine

open Sys2Proof Sys2Proof.Machine

/-- Settles O38: the frames that strike act alike; then by the run state, which names the test that follows. -/
theorem strikesFollowFrame : Obligations.StrikesFollowFrame := by
  unfold Obligations.StrikesFollowFrame
  refine ⟨fun c s u v hit reason struck hc hstruck hv => ?_, fun after source why s u h => ?_⟩
  · obtain ⟨hexec, hl⟩ : exec c s = .next (u.strikes hit reason) ∧ u.line.link ≠ .strapFault := by
      rcases hc with ⟨after, sel, rfl, h, hwhich⟩ | ⟨after, source, why, rfl, h, rfl, hwhy⟩
      · exact ⟨exec_other_strikes c s u after sel reason h hwhich, s.takes_link u after h.1⟩
      · have hreason : ParkedReason.strike why = reason := by
          rcases hwhy with ⟨rfl, rfl⟩ | ⟨rfl, rfl⟩ <;> rfl
        exact ⟨hreason ▸ exec_parked_strikes s u after source why h, s.takes_link u after h.1⟩
    have hlive : u.coord.stage ≠ .none ∨ u.coord.run = .enrolled ∨ u.coord.run.stepping = true →
        exec c s = .next v.testAfterStrike := fun h => by
      rw [hexec, u.strikes_live hit reason struck h hstruck, hv]
    have hvrun : v.coord.run = u.coord.run := by rw [hv]
    have hvstep : v.coord.step = u.coord.step := by rw [hv]
    have hvroster : v.coord.roster = struck := by rw [hv]
    refine ⟨fun hs hr => ?_, fun hr => ?_, fun k r hr hk hslot => ?_, fun k hr hk _ => ?_⟩
    · rw [hexec, u.strikes_kept hit reason]
      rw [Coordinator.live_iff]
      rcases hr with hr | hr | hr | hr <;> simp [hs, hr, RunState.stepping, RunState.triggered]
    · have hidle : v.coord.run ≠ .gathering ∧ v.coord.run.triggered = false := by
        rw [hvrun]
        rcases hr with hr | ⟨_, hr | hr | hr⟩ <;> simp [hr, RunState.triggered]
      rw [hlive (hr.elim (fun he => .inr (.inl he)) fun he => .inl he.1), v.testAfterStrike_other hidle.1,
        v.completionTest_other hidle.2]
    · have hvgathering : v.coord.run = .gathering := hvrun.trans hr
      have hvslot : v.slot k = some r := by rw [hv]; exact hslot
      have hvsource : v.coord.source = u.coord.source := by rw [hv]
      rw [hlive (.inr (.inr ((RunState.stepping_iff _).2 (.inl hr)))), v.testAfterStrike_gathering hvgathering,
        ← hvroster, ← hvsource]
      exact ⟨fun h => by rw [v.triggerTest_triggers k r hvgathering (hvstep.trans hk) hvslot h],
        fun h => by rw [v.triggerTest_waits k r hvgathering (hvstep.trans hk) hvslot h]⟩
    · have htriggered : v.coord.run.triggered = true := by rw [hvrun]; exact (RunState.triggered_iff _).2 hr
      have hvother : v.coord.run ≠ .gathering := by rcases hr with hr | hr | hr <;> simp [hvrun, hr]
      rw [hlive (.inr (.inr ((RunState.stepping_iff _).2 (.inr hr)))), v.testAfterStrike_other hvother, ← hvroster]
      exact ⟨fun h => by rw [v.completionTest_completes k htriggered (hvstep.trans hk) (by rwa [hv]) h],
        fun h => by rw [v.completionTest_waits h]⟩
  · rw [show exec (.parked after source why) s = .next (u.takeParked source why) from
      s.takeStation_own u after source _ _ h, u.takeParked_own source why (s.takesOwn_source u after source _ h)]

/-- Settles O48: the own DONE, then a peer's, each by whether its station and step are the ones that count. -/
theorem doneReportsAndCompletes : Obligations.DoneReportsAndCompletes := by
  unfold Obligations.DoneReportsAndCompletes
  rintro after source k verdict attempt error c s u roster rfl hroster
  refine ⟨fun v h hv => ?_, fun v h hv => ?_⟩
  · have hl := s.takesStation_link u after source _ (.inr h)
    have hsource := s.takesOwn_source u after source _ h
    have hreports : u.reports k verdict = v := by rw [hv, hroster, hsource, State.reports]
    have hvroster : v.coord.roster = roster := by rw [hv]
    rw [show exec (.done after source k verdict attempt error) s = .next (u.takeDone source k verdict) from
      s.takeStation_own u after source _ _ h, u.takeDone_own source k verdict hsource]
    refine ⟨fun hr hk _ => ?_, fun hno => ?_⟩
    · have hvk : v.coord.step = some k := by rw [hv]; exact hk
      have hvexpired : v.coord.expired = u.coord.expired := by rw [hv]
      have hvl : v.line.link ≠ .strapFault := by rwa [hv]
      rw [u.takeOwnDone_reports k verdict hr hk, hreports, ← hvroster, ← hvexpired]
      refine ⟨fun hall => ?_, fun hall he => ?_, fun hall he => ?_⟩
      · rw [v.lapseAfresh_none k (.inr hall), v.completionTest_completes k (by rw [hv]; rfl) hvk hvl hall]
      · rw [v.lapseAfresh_none k (.inl he), v.completionTest_waits hall]
      · rw [v.lapseAfresh_queues k hvl he hall, State.completionTest_waits _ (by exact hall)]
        rfl
    · rw [u.takeOwnDone_other k verdict hno]
  · have hl := s.takes_link u after h.1
    have hmarked : u.mapRoster (setPhaseAt source (.reported verdict)) = v := by
      rw [hv, hroster, ← setPhaseAt_eq]
      rfl
    have hvroster : v.coord.roster = roster := by rw [hv]
    rw [show exec (.done after source k verdict attempt error) s = .next (u.takeDone source k verdict) from
      s.takeStation_peer u after source _ _ h, u.takeDone_peer source k verdict h.2.2, ← RunState.triggered_iff]
    refine ⟨fun hr hk hm _ => ?_, fun hno => ?_⟩
    · rw [u.takePeerDone_marks source k verdict hr ((u.fromMember_iff source k).2 ⟨hk, hm⟩), hmarked, ← hvroster]
      exact ⟨fun hall => by
          rw [v.completionTest_completes k (by rwa [hv]) (by rwa [hv]) (by rwa [hv]) hall],
        fun hall => by rw [v.completionTest_waits hall]⟩
    · rw [u.takePeerDone_other source k verdict]
      rw [State.fromMember_iff]
      rintro ⟨hr, hk, hm⟩
      rcases hno with hno | hno | hno
      · exact hno hr
      · exact hno hk
      · exact hno hm

/-- Settles O41, by the run state and then the verdicts or the dwell end. -/
theorem closeSealsOrRecords : Obligations.CloseSealsOrRecords := by
  unfold Obligations.CloseSealsOrRecords
  intro after sel s u verdicts record h hverdicts hrecord
  have hlist : verdictList u.coord.results u.plan.length = verdicts := hverdicts.symm
  have hclosure : ∀ v p c, u.closureRecordOf v p c = record v p c := fun v p c => by
    rw [hrecord, State.closureRecordOf, hlist]
  rw [show exec (.close after sel) s = .next u.takeClose from s.takeConsole_matching u after _ sel _ h]
  refine ⟨fun hr ha hall => ?_, fun hr hall => ?_, fun first dwellEnd hr hp => ⟨fun hlt => ?_, fun hle => ?_⟩,
    fun hr hp => ?_, fun h1 h2 => ?_⟩
  · rw [u.takeClose_closing hr, u.closeRun_pass ha ((runVerdictOf_eq_pass_iff _ _).2 (by rwa [hlist])), hclosure]
  · rw [u.takeClose_closing hr, u.closeRun_fail ((runVerdictOf_eq_fail_iff _ _).2 (by rwa [hlist])), hclosure]
  · rw [u.takeClose_closed hr, State.mapClosure, hp, Press.extend, if_pos (by exact hlt)]
    rfl
  · rw [u.takeClose_stays hr]
    rw [hp, Press.extend, if_neg (by exact Nat.not_lt.2 hle)]
  · rw [u.takeClose_stays hr]
    rw [hp]
    rfl
  · rw [u.takeClose_other h1 h2]

end

section
/-! The obligations on SETTLED, READY and the LAPSE of the gather phase (O43, O46, O49). -/

namespace Sys2Proof.Machine

/-! ## The trigger test (R113) -/

theorem State.triggerTest_noStep (s : State) (hk : s.coord.step = none) : s.triggerTest = s := by
  unfold State.triggerTest
  rw [hk]
  cases s.coord.run <;> rfl

/-- R113: outside GATHERING, or with its condition not met, the trigger test changes nothing. -/
theorem State.triggerTest_unmet (s : State) (k : StepIx) (r : StepRecord) (hk : s.coord.step = some k)
    (hr : s.slot k = some r)
    (h : s.coord.run ≠ .gathering ∨ ¬(everyReady s.coord.roster ∧ s.coord.source.isAt r)) : s.triggerTest = s := by
  by_cases hrun : s.coord.run = .gathering
  · exact s.triggerTest_waits k r hrun hk hr (h.resolve_left (not_not_intro hrun))
  · exact s.triggerTest_other hrun

/-! ## SETTLED (R110, R113, R117, R126) -/

theorem State.restartHolds_noStep (s : State) (hk : s.coord.step = none) : ¬s.restartHolds = true := by
  rw [State.restartHolds, hk]
  exact Bool.false_ne_true

/-- R126: the condition of a restart. -/
theorem State.restartHolds_iff (s : State) (k : StepIx) (r : StepRecord) (hk : s.coord.step = some k)
    (hr : s.slot k = some r) :
    s.restartHolds = true ↔ s.coord.suspension = true ∧ s.coord.source.isAt r := by
  simp only [State.restartHolds, hk, hr, Bool.and_eq_true, SourceView.settledAt_iff]

theorem State.takeSettled_restarts (s : State) (lp : BitVec 8)
    (h : (s.setSource (.settled lp.toNat)).restartHolds = true) :
    s.takeSettled lp = (s.setSource (.settled lp.toNat)).restartStep :=
  if_pos h

theorem State.takeSettled_tests (s : State) (lp : BitVec 8)
    (h : ¬(s.setSource (.settled lp.toNat)).restartHolds = true) :
    s.takeSettled lp = (s.setSource (.settled lp.toNat)).triggerTest :=
  if_neg h

/-- R117, R126: what a restart of the step in hand changes. -/
theorem State.restartStep_eq (s : State) (k : StepIx) (hk : s.coord.step = some k) :
    s.restartStep =
      { s with
        front := { s.front with nextEdge := true }
        gate := { s.gate with holdLatch := false }
        line := { s.line with
          queue := { s.line.queue with
            hold := none
            lapse := s.line.queue.lapse.filter fun e => e.frame != { step := k, phase := .measure } } }
        coord := { s.coord with
          restarts := s.coord.restarts + 1, runRestarts := s.coord.runRestarts + 1, holds := 0
          suspension := false, deadline := none, expired := false, waitEnd := some (s.now + 100_000)
          run := if s.coord.run = .suspended then .measuring else s.coord.run } } := by
  rw [State.restartStep, State.changeDeadline_none _ k (by exact hk), OutQueue.lapse_withdrawn]
  rfl

/-! ## Frames of a member in GATHERING (R112, R119, R128) -/

/-- R128: a frame that does not find its step in GATHERING, or its sender ACTIVE. -/
theorem State.not_gatheringMember (s : State) (source : Position) (k : StepIx)
    (h : s.coord.run ≠ .gathering ∨ s.coord.step ≠ some k ∨ ¬memberAt source s.coord.roster) :
    ¬(s.coord.run = .gathering ∧ s.fromMember source k = true) := by
  rw [State.fromMember_iff]
  rintro ⟨hr, hk, hm⟩
  rcases h with hno | hno | hno
  · exact hno hr
  · exact hno hk
  · exact hno hm

/-- R112: a READY(k) from an ACTIVE member in GATHERING(k) marks its entry, and the trigger is tested. -/
theorem State.takeReady_marks (s : State) (source : Position) (k : StepIx) (hr : s.coord.run = .gathering)
    (hm : s.fromMember source k = true) :
    s.takeReady source k = (s.mapRoster (setPhaseAt source .ready)).triggerTest :=
  if_pos ⟨hr, hm⟩

/-- R128: any other READY is ignored. -/
theorem State.takeReady_other (s : State) (source : Position) (k : StepIx)
    (h : ¬(s.coord.run = .gathering ∧ s.fromMember source k = true)) : s.takeReady source k = s :=
  if_neg h

/-- R119: a LAPSE(k, GATHER) from an ACTIVE member in GATHERING(k) strikes those who wait. -/
theorem State.takeLapseGather_strikes (s : State) (source : Position) (k : StepIx) (hr : s.coord.run = .gathering)
    (hm : s.fromMember source k = true) : s.takeLapseGather source k = (s.strikeWaiting k).afterGatherLapse :=
  if_pos ⟨hr, hm⟩

/-- R128: any other LAPSE of the gather phase is ignored. -/
theorem State.takeLapseGather_other (s : State) (source : Position) (k : StepIx)
    (h : ¬(s.coord.run = .gathering ∧ s.fromMember source k = true)) : s.takeLapseGather source k = s :=
  if_neg h

/-- R119: what the LAPSE changes before the run ends or the trigger is tested. -/
theorem State.strikeWaiting_eq (s : State) (k : StepIx) :
    s.strikeWaiting k =
      { s with
        coord := { s.coord with
          gatherEnd := none
          roster := s.coord.roster.map fun m =>
            if m.standing = .active ∧ m.phase = .waiting then { m with standing := .struck .gatherLapse } else m }
        line := { s.line with
          queue := { s.line.queue with
            lapse := s.line.queue.lapse.filter fun e => e.frame != { step := k, phase := .gather } } } } := by
  rw [State.strikeWaiting, State.withdrawLapse_eq, OutQueue.lapse_withdrawn]
  simp only [State.mapRoster, State.mapCoord, strikeWhere_eq, beq_iff_eq]

/-- R119: a station whose own entry stands tests the trigger. -/
theorem State.afterGatherLapse_member (s : State) (h : memberAt s.line.strap s.coord.roster) :
    s.afterGatherLapse = s.triggerTest :=
  if_pos ((activeAt_iff _ _).2 h)

/-- R119, R130: a station struck itself ends its run. -/
theorem State.afterGatherLapse_struck (s : State) (h : ¬memberAt s.line.strap s.coord.roster) :
    s.afterGatherLapse = s.runOver :=
  if_neg (mt (activeAt_iff _ _).1 h)

end Sys2Proof.Machine

open Sys2Proof Sys2Proof.Machine

/-- Settles O43: with the view set, by whether the step restarts; where it does not, the trigger is tested. -/
theorem settledTriggersOrRestarts : Obligations.SettledTriggersOrRestarts := by
  unfold Obligations.SettledTriggersOrRestarts
  intro after lp s u v h hv
  have hview : u.setSource (.settled lp.toNat) = v := hv.symm
  have hstep : v.coord.step = u.coord.step := by rw [hv]
  have hsuspension : v.coord.suspension = u.coord.suspension := by rw [hv]
  have hrestarts := hview ▸ u.takeSettled_restarts lp
  have htests := hview ▸ u.takeSettled_tests lp
  rw [show exec (.settled after lp) s = .next (u.takeSettled lp) from s.takeFrame_takes u after _ _ h]
  refine ⟨fun hk => ?_, fun k r hk hr => ?_⟩
  · have hvk : v.coord.step = none := hstep.trans hk
    rw [htests (v.restartHolds_noStep hvk), v.triggerTest_noStep hvk]
  · have hvk : v.coord.step = some k := hstep.trans hk
    have hvr : v.slot k = some r := by rw [hv]; exact hr
    have hholds := hsuspension ▸ v.restartHolds_iff k r hvk hvr
    refine ⟨fun hs hat => ?_, fun hs hrun hall hat => ?_, fun hno => ?_⟩
    · rw [hrestarts (hholds.2 ⟨hs, hat⟩), v.restartStep_eq k hvk, hv]
      rfl
    · have hvrun : v.coord.run = .gathering := by rw [hv]; exact hrun
      have hvall : everyReady v.coord.roster := by rw [hv]; exact hall
      have hnorestart := mt hholds.1 fun hh => Bool.false_ne_true (hs.symm.trans hh.1)
      rw [htests hnorestart, v.triggerTest_triggers k r hvrun hvk hvr ⟨hvall, hat⟩]
    · have hnorestart : ¬v.restartHolds = true := by
        rw [hholds]
        rintro ⟨hs, hat⟩
        rcases hno with hno | ⟨hclear, _⟩
        · exact hno hat
        · exact Bool.false_ne_true (hclear.symm.trans hs)
      have hnotrigger : v.coord.run ≠ .gathering ∨ ¬(everyReady v.coord.roster ∧ v.coord.source.isAt r) := by
        rcases hno with hno | ⟨_, hno | hno⟩
        · exact .inr fun hh => hno hh.2
        · exact .inl (by rwa [hv])
        · exact .inr fun hh => hno (by rw [hv] at hh; exact hh.1)
      rw [htests hnorestart, v.triggerTest_unmet k r hvk hvr hnotrigger]

/-- Settles O46: the entry of the sender marked, the trigger test names what follows. -/
theorem readyMarksMemberAndTriggers : Obligations.ReadyMarksMemberAndTriggers := by
  unfold Obligations.ReadyMarksMemberAndTriggers
  intro after source k s u v roster h hroster hv
  have hmarked : u.mapRoster (setPhaseAt source .ready) = v := by
    rw [hv, hroster, ← setPhaseAt_eq]
    rfl
  rw [show exec (.ready after source k) s = .next (u.takeReady source k) from s.takeStation_any u after source _ _ h]
  refine ⟨fun r hrun hk hm hr => ?_, fun hno => ?_⟩
  · have hvrun : v.coord.run = .gathering := by rw [hv]; exact hrun
    have hvk : v.coord.step = some k := by rw [hv]; exact hk
    have hvr : v.slot k = some r := by rw [hv]; exact hr
    have hvroster : v.coord.roster = roster := by rw [hv]
    have hvsource : v.coord.source = u.coord.source := by rw [hv]
    rw [u.takeReady_marks source k hrun ((u.fromMember_iff source k).2 ⟨hk, hm⟩), hmarked, ← hvroster, ← hvsource]
    exact ⟨fun hmet => by rw [v.triggerTest_triggers k r hvrun hvk hvr hmet],
      fun hmet => by rw [v.triggerTest_waits k r hvrun hvk hvr hmet]⟩
  · rw [u.takeReady_other source k (u.not_gatheringMember source k hno)]

/-- Settles O49: those who wait struck, by whether the own entry stands; where it does, the trigger is tested. -/
theorem gatherLapseStrikesWaiting : Obligations.GatherLapseStrikesWaiting := by
  unfold Obligations.GatherLapseStrikesWaiting
  intro after source k s u v struck h hstruck hv
  have hstrikes : u.strikeWaiting k = v := by rw [hv, hstruck, u.strikeWaiting_eq k]
  rw [show exec (.lapseGather after source k) s = .next (u.takeLapseGather source k) from
    s.takeStation_any u after source _ _ h]
  refine ⟨fun r hrun hk hm hr => ?_, fun hno => ?_⟩
  · have hvrun : v.coord.run = .gathering := by rw [hv]; exact hrun
    have hvk : v.coord.step = some k := by rw [hv]; exact hk
    have hvr : v.slot k = some r := by rw [hv]; exact hr
    have hvroster : v.coord.roster = struck := by rw [hv]
    have hvsource : v.coord.source = u.coord.source := by rw [hv]
    have hvstrap : v.line.strap = u.line.strap := by rw [hv]
    rw [u.takeLapseGather_strikes source k hrun ((u.fromMember_iff source k).2 ⟨hk, hm⟩), hstrikes, ← hvroster,
      ← hvsource, ← hvstrap]
    exact ⟨fun hown => by rw [v.afterGatherLapse_struck hown],
      fun hown hmet => by rw [v.afterGatherLapse_member hown, v.triggerTest_triggers k r hvrun hvk hvr hmet],
      fun hown hmet => by rw [v.afterGatherLapse_member hown, v.triggerTest_waits k r hvrun hvk hvr hmet]⟩
  · rw [u.takeLapseGather_other source k (u.not_gatheringMember source k hno)]

end

section
/-! The obligation on RELEASE (O42). -/

namespace Sys2Proof.Machine

/-! ## RELEASE (R147) -/

/-- R142, R147: the cut marks a record that holds one, but the record is then emptied; CALN is not touched. -/
theorem ClosureUnit.cutPress_emptied (c : ClosureUnit) :
    { c.cutPress with record := none } = { c with record := none, press := .off } := by
  rw [c.cutPress_eq, ClosureUnit.pressCut]
  by_cases hoff : c.press = .off
  · rw [if_pos hoff, ← hoff]
  · rw [if_neg hoff]

/-- R147: a RELEASE in CLOSED. -/
theorem State.takeRelease_closed (s : State) (h : s.coord.run = .closed) :
    s.takeRelease =
      { s with
        closure := { s.closure with record := none, press := .off }
        coord := { s.coord with
          run := if s.plan.length = 0 then .idle else .loaded, step := none, verdict := none
          results := ResultTable.blank } } := by
  rw [State.takeRelease, if_pos h, State.releaseRun, ← s.closure.cutPress_emptied]
  rfl

/-- R147: a RELEASE in any other run state. -/
theorem State.takeRelease_other (s : State) (h : s.coord.run ≠ .closed) : s.takeRelease = s := if_neg h

end Sys2Proof.Machine

open Sys2Proof Sys2Proof.Machine

/-- Settles O42, by whether the run state is CLOSED. -/
theorem releaseFreesClosedStation : Obligations.ReleaseFreesClosedStation := by
  unfold Obligations.ReleaseFreesClosedStation
  intro after sel s u h
  rw [show exec (.release after sel) s = .next u.takeRelease from s.takeConsole_matching u after _ sel _ h]
  refine ⟨fun hclosed => ?_, fun hother => ?_⟩
  · rw [u.takeRelease_closed hclosed]
    rfl
  · rw [u.takeRelease_other hother]

end

section
/-! The obligations on a clamp closing and on the pulses of a self-test (O16, O23). -/

namespace Sys2Proof.Machine

/-! ## Pulses in WAKING (R9, R154) -/

/-- R9: the self-test of a station that takes part in the line takes the pulses of a WAKING. -/
theorem State.consumer_selfTest (u : State) (hl : u.line.link ≠ .strapFault) (hw : u.power.state = .waking) :
    u.consumer = .selfTest := by
  rw [State.consumer, if_neg hl, if_pos hw]

/-- A pulse that the self-test takes. -/
theorem exec_pulse_selfTest (s u : State) (stamp : Nat) (h : s.meets .pulseAccepted u)
    (hc : u.front.candidate = some stamp) (hl : u.line.link ≠ .strapFault) (hw : u.power.state = .waking) :
    exec .pulseAccepted s = .next ((u.afterPulse stamp).selfTestPulse (u.formedPeriod stamp)) := by
  rw [exec_pulseAccepted s u stamp h hc, State.routePulse, (u.afterPulse stamp).consumer_selfTest hl hw]

/-- R154: the burst has started where it runs, and where its start lies in the past (log 17). -/
theorem State.burstStarted_iff (s : State) :
    s.burstStarted = true ↔ (∃ b, s.front.loop = .burst b)
      ∨ (s.front.loop = .off ∧ ∃ w, s.power.wakeStart = some w ∧ w + 50_000 < s.now) := by
  unfold State.burstStarted
  cases s.front.loop with
  | burst b => simp
  | off =>
    cases s.power.wakeStart with
    | none => simp
    | some w =>
      show decide (w + Config.burstDelay < s.now) = true ↔ _
      rw [decide_eq_true_iff]
      simp [Config.burstDelay]

/-- R154: before the burst a pulse is discarded. -/
theorem State.selfTestPulse_discarded (s : State) (period : Option Nat) (h : ¬s.burstStarted = true) :
    s.selfTestPulse period = s :=
  if_neg h

/-- R154: from the start of the burst on a pulse is counted. -/
theorem State.selfTestPulse_counted (s : State) (period : Option Nat) (t : Tally) (h : s.burstStarted = true)
    (ht : s.power.tally = some t) :
    s.selfTestPulse period = { s with power := { s.power with tally := some (t.add period) } } := by
  rw [State.selfTestPulse, if_pos h, State.mapPower, ht]
  rfl

/-- R154: a pulse with no period leaves the shortest and the longest. -/
theorem Tally.add_none (t : Tally) : t.add none = { t with count := min 255 (t.count + 1) } := rfl

/-- R154: a pulse with a period takes part in the shortest and the longest. -/
theorem Tally.add_some (t : Tally) (p : Nat) :
    t.add (some p) =
      { count := min 255 (t.count + 1)
        smallest := some (match t.smallest with | some a => min a p | none => p)
        largest := some (match t.largest with | some a => max a p | none => p) } := by
  rw [Tally.add]
  cases t.smallest <;> cases t.largest <;> rfl

/-! ## A clamp closing (R151 to R153) -/

/-- CLAMP_CLOSING in the state in which it reaches the station. -/
theorem exec_clampClosing (s u : State) (after : Nat) (h : s.reaches after u) :
    exec (.clampClosing after) s = .next u.clampCloses :=
  s.atEvent_reaches u after State.clampCloses h

/-- R151: in STRAP-FAULT and outside PARKED a closing changes the level alone. -/
theorem State.clampCloses_level (s : State) (h : s.line.link = .strapFault ∨ s.power.state ≠ .parked) :
    s.clampCloses = s.setClamp .closed := by
  unfold State.clampCloses
  by_cases hl : s.line.link = .strapFault
  · rw [if_pos hl]
  · rw [if_neg hl, State.actOnClosing]
    exact if_neg (h.resolve_left hl)

/-- R151: in PARKED a closing acts beside the level. -/
theorem State.clampCloses_parked (s : State) (hl : s.line.link ≠ .strapFault) (hp : s.power.state = .parked) :
    s.clampCloses = (s.setClamp .closed).closeParked := by
  rw [State.clampCloses, if_neg hl, State.actOnClosing]
  exact if_pos hp

/-- R152: the dwell is over past its end, and where there is none (log 12). -/
theorem State.dwellOver_iff (s : State) :
    s.dwellOver = true ↔ ∀ t, s.power.parkedSince = some t → t + 500_000 < s.now := by
  unfold State.dwellOver
  cases s.power.parkedSince with
  | none => simp
  | some t =>
    show decide (t + Config.parkedDwell < s.now) = true ↔ _
    rw [decide_eq_true_iff]
    simp [Config.parkedDwell]

/-- R152, R153: once the dwell is over a closing wakes the station. -/
theorem State.closeParked_wakes (s : State) (h : s.dwellOver = true) : s.closeParked = s.wakes :=
  if_pos h

/-- R152: before that a closing is held. -/
theorem State.closeParked_held (s : State) (h : ¬s.dwellOver = true) :
    s.closeParked = { s with power := { s.power with heldClosing := true } } :=
  if_neg h

end Sys2Proof.Machine

open Sys2Proof Sys2Proof.Machine

/-- Settles O23: by the power state, and in PARKED by whether the dwell is over. -/
theorem clampClosingWakesOrIsHeld : Obligations.ClampClosingWakesOrIsHeld := by
  unfold Obligations.ClampClosingWakesOrIsHeld
  intro after s u h
  rw [exec_clampClosing s u after h]
  refine ⟨fun hlevel => ?_, fun hl hp hover => ?_, fun t hl hp ht hbefore => ?_⟩
  · rw [u.clampCloses_level hlevel]
    rfl
  · have hdwell : (u.setClamp .closed).dwellOver = true := (State.dwellOver_iff _).2 hover
    rw [u.clampCloses_parked hl hp, State.closeParked_wakes _ hdwell]
    rfl
  · have hdwell : ¬(u.setClamp .closed).dwellOver = true := fun hover =>
      Nat.not_lt.2 hbefore ((State.dwellOver_iff _).1 hover t ht)
    rw [u.clampCloses_parked hl hp, State.closeParked_held _ hdwell]
    rfl

/-- Settles O16: the self-test takes the pulse; by whether the burst has started, and by the period. -/
theorem selfTestTalliesPulses : Obligations.SelfTestTalliesPulses := by
  unfold Obligations.SelfTestTalliesPulses
  intro s u stamp h hc hl hw
  have hstarted := (u.afterPulse stamp).burstStarted_iff
  rw [exec_pulse_selfTest s u stamp h hc hl hw]
  refine ⟨fun w hoff hwake hbefore => ?_, fun t hburst ht hp => ?_, fun p t hburst ht hp => ?_⟩
  · rw [State.selfTestPulse_discarded]
    rw [hstarted]
    rintro (⟨b, hb⟩ | ⟨_, w', hw', hlt⟩)
    · exact LoopGen.noConfusion (hoff.symm.trans hb)
    · obtain rfl : w = w' := Option.some.inj (hwake.symm.trans hw')
      exact Nat.not_lt.2 hbefore hlt
  · rw [hp, State.selfTestPulse_counted _ none t (hstarted.2 hburst) ht, t.add_none]
    rfl
  · rw [hp, State.selfTestPulse_counted _ (some p) t (hstarted.2 hburst) ht, t.add_some]
    rfl

end

section
/-! The obligation on the forms of a REPLY (O57). -/

namespace Sys2Proof.Machine

/-! ## Fields of a number and of a word (R173) -/

/-- The number of bits that fields of given widths fill. -/
def fieldsWidth (fields : List (Nat × Nat)) : Nat := (fields.map Prod.fst).sum

@[simp] theorem fieldsWidth_nil : fieldsWidth [] = 0 := rfl

@[simp] theorem fieldsWidth_cons (f : Nat × Nat) (rest : List (Nat × Nat)) :
    fieldsWidth (f :: rest) = f.1 + fieldsWidth rest := by
  simp [fieldsWidth]

@[simp] theorem fieldsWidth_append (xs ys : List (Nat × Nat)) :
    fieldsWidth (xs ++ ys) = fieldsWidth xs + fieldsWidth ys := by
  simp [fieldsWidth]

theorem packFields_foldl (fields : List (Nat × Nat)) (a : Nat) :
    fields.foldl (fun acc f => acc * 2 ^ f.1 + f.2 % 2 ^ f.1) a = a * 2 ^ fieldsWidth fields + packFields fields := by
  induction fields generalizing a with
  | nil => simp [fieldsWidth, packFields]
  | cons f rest ih =>
    rw [packFields, List.foldl_cons, List.foldl_cons, ih, ih, fieldsWidth_cons, Nat.pow_add]
    ring

theorem packFields_append (xs ys : List (Nat × Nat)) :
    packFields (xs ++ ys) = packFields xs * 2 ^ fieldsWidth ys + packFields ys := by
  rw [packFields, List.foldl_append, packFields_foldl]
  rfl

theorem packFields_cons (f : Nat × Nat) (rest : List (Nat × Nat)) :
    packFields (f :: rest) = f.2 % 2 ^ f.1 * 2 ^ fieldsWidth rest + packFields rest := by
  rw [packFields, List.foldl_cons, packFields_foldl]
  simp

theorem packFields_lt (fields : List (Nat × Nat)) : packFields fields < 2 ^ fieldsWidth fields := by
  induction fields with
  | nil => simp [packFields, fieldsWidth]
  | cons f rest ih =>
    have hf : f.2 % 2 ^ f.1 < 2 ^ f.1 := Nat.mod_lt _ (Nat.two_pow_pos _)
    calc packFields (f :: rest) = f.2 % 2 ^ f.1 * 2 ^ fieldsWidth rest + packFields rest := packFields_cons f rest
      _ < f.2 % 2 ^ f.1 * 2 ^ fieldsWidth rest + 2 ^ fieldsWidth rest := by omega
      _ = (f.2 % 2 ^ f.1 + 1) * 2 ^ fieldsWidth rest := by ring
      _ ≤ 2 ^ f.1 * 2 ^ fieldsWidth rest := Nat.mul_le_mul_right _ hf
      _ = 2 ^ fieldsWidth (f :: rest) := by rw [fieldsWidth_cons, Nat.pow_add]

/-- A field stands above the fields after it. -/
theorem packFields_field (before after : List (Nat × Nat)) (w v : Nat) :
    packFields (before ++ (w, v) :: after) / 2 ^ fieldsWidth after % 2 ^ w = v % 2 ^ w := by
  have hpos : 0 < 2 ^ fieldsWidth after := Nat.two_pow_pos _
  have hsplit : packFields (before ++ (w, v) :: after)
      = (packFields before * 2 ^ w + v % 2 ^ w) * 2 ^ fieldsWidth after + packFields after := by
    rw [packFields_append, packFields_cons, fieldsWidth_cons, Nat.pow_add]
    ring
  rw [hsplit, Nat.add_comm, Nat.add_mul_div_right _ _ hpos, Nat.div_eq_of_lt (packFields_lt after), Nat.zero_add,
    Nat.mul_comm (packFields before), Nat.mul_add_mod, Nat.mod_mod]

/-- A word of 16 bits cut from a number keeps the fields that lie in it. -/
theorem mod_word_field (x lo w : Nat) (h : lo + w ≤ 16) : x % 2 ^ 16 / 2 ^ lo % 2 ^ w = x / 2 ^ lo % 2 ^ w := by
  apply Nat.eq_of_testBit_eq
  intro i
  by_cases hi : i < w
  · have hlo : i + lo < 16 := by omega
    simp only [Nat.testBit_mod_two_pow, Nat.testBit_div_two_pow, hi, hlo, decide_true, Bool.true_and]
  · simp only [Nat.testBit_mod_two_pow, hi, decide_false, Bool.false_and]

/-- A word carries fields, the most significant first and the last down to bit 0. -/
def FieldsRead (x : Word) : List (Nat × Nat) → Prop
  | [] => True
  | f :: rest => x.toNat / 2 ^ fieldsWidth rest % 2 ^ f.1 = f.2 % 2 ^ f.1 ∧ FieldsRead x rest

theorem fieldsRead_of_suffix (before after : List (Nat × Nat)) (h : fieldsWidth after ≤ 16) :
    FieldsRead (fieldWord (before ++ after)) after := by
  induction after generalizing before with
  | nil => trivial
  | cons f rest ih =>
    rw [fieldsWidth_cons] at h
    refine ⟨?_, ?_⟩
    · rw [fieldWord, BitVec.toNat_ofNat, mod_word_field _ _ _ (by omega)]
      exact packFields_field before rest f.1 f.2
    · have hrest := ih (before ++ [f]) (by omega)
      rwa [List.append_assoc] at hrest

/-- Every field of a word of fields is carried at its place. -/
theorem fieldsRead_fieldWord (fields : List (Nat × Nat)) (h : fieldsWidth fields ≤ 16) :
    FieldsRead (fieldWord fields) fields :=
  fieldsRead_of_suffix [] fields h

/-- A word carried whole. -/
theorem word_whole (w : Word) : w.toNat / 2 ^ 0 % 2 ^ 16 = w.toNat % 2 ^ 16 := by rw [Nat.pow_zero, Nat.div_one]

/-- A number carried in a whole word. -/
theorem ofNat_whole (x : Nat) : (BitVec.ofNat 16 x).toNat / 2 ^ 0 % 2 ^ 16 = x % 2 ^ 16 := by
  rw [word_whole, BitVec.toNat_ofNat, Nat.mod_mod]

/-! ## Numbers over several words (R173) -/

@[simp] theorem splitWords_length (n x : Nat) : (splitWords n x).length = n := by
  induction n with
  | zero => rfl
  | succ n ih => rw [splitWords, List.length_cons, ih]

/-- The words of a number, counted from 0, the most significant first. -/
theorem splitWords_getD (n x i : Nat) (h : i < n) :
    ((splitWords n x).getD i 0).toNat = x / 2 ^ (16 * (n - 1 - i)) % 2 ^ 16 := by
  induction n generalizing i with
  | zero => exact absurd h (Nat.not_lt_zero i)
  | succ n ih =>
    cases i with
    | zero => simp [splitWords]
    | succ i =>
      rw [splitWords, List.getD_cons_succ, ih i (by omega), show n + 1 - 1 - (i + 1) = n - 1 - i by omega]

/-- Two words carry the low 32 bits of a number. -/
theorem splitWords_wide (x : Nat) :
    (BitVec.ofNat 16 (x / 2 ^ (16 * 1))).toNat * 65_536 + (BitVec.ofNat 16 (x / 2 ^ (16 * 0))).toNat = x % 2 ^ 32 := by
  simp only [BitVec.toNat_ofNat]
  omega

theorem wordsOf32_wide (e : Int) :
    ((BitVec.ofInt 32 e).extractLsb' 16 16).toNat * 65_536 + ((BitVec.ofInt 32 e).extractLsb' 0 16).toNat
      = (e % 2 ^ 32).toNat % 2 ^ 32 := by
  simp only [BitVec.extractLsb'_toNat, BitVec.toNat_ofInt, Nat.shiftRight_eq_div_pow]
  omega

theorem payloadNumber_foldl (words : List Word) (a : Nat) :
    words.foldl (fun acc w => acc * 65_536 + w.toNat) a = a * 2 ^ (16 * words.length) + payloadNumber words := by
  induction words generalizing a with
  | nil => simp [payloadNumber]
  | cons w rest ih =>
    rw [payloadNumber, List.foldl_cons, List.foldl_cons, ih, ih, List.length_cons, Nat.mul_succ 16, Nat.pow_add]
    ring

/-- The words of a number read as one number again. -/
theorem payloadNumber_splitWords (n x : Nat) : payloadNumber (splitWords n x) = x % 2 ^ (16 * n) := by
  induction n with
  | zero => simp [splitWords, payloadNumber, Nat.mod_one]
  | succ n ih =>
    rw [splitWords, payloadNumber, List.foldl_cons, payloadNumber_foldl, ih, splitWords_length, Nat.mul_succ 16,
      Nat.pow_add, Nat.mod_mul, BitVec.toNat_ofNat]
    ring

/-- A field of a number over several words that does not cross a word boundary. -/
theorem splitWords_carries (before after : List (Nat × Nat)) (n i hi lo v : Nat) (hi1 : 1 ≤ i) (hin : i ≤ n)
    (hhi : hi < 16) (hlo : lo ≤ hi) (hw : fieldsWidth after = 16 * (n - i) + lo) :
    carries (splitWords n (packFields (before ++ (hi + 1 - lo, v) :: after))) i hi lo v := by
  rw [carries, splitWords_getD _ _ _ (by omega), mod_word_field _ _ _ (by omega), Nat.div_div_eq_div_mul, ← Nat.pow_add,
    show 16 * (n - 1 - (i - 1)) + lo = fieldsWidth after by rw [hw]; omega]
  exact packFields_field before after _ v

/-! ## Codes of single fields (R173) -/

theorem bitOf_beq {α : Type} [DecidableEq α] (a b : α) : bitOf (a == b) = if a = b then 1 else 0 := by
  simp [bitOf]

theorem bitOf_isSome {α : Type} [DecidableEq α] (x : Option α) : bitOf x.isSome = if x = none then 0 else 1 := by
  cases x <;> simp [bitOf]

theorem verdictCode_toNat (v : Verdict) : (Verdict.code v).toNat = verdictNumber v := by
  cases v <;> rfl

/-! ## STATUS (R166) -/

theorem stepInHandFields_eq (k : Option StepIx) :
    stepInHandFields k = [(1, if k = none then 0 else 1), (4, match k with | some k => k.val | none => 0)] := by
  cases k <;> rfl

theorem SourceView.loadPoint_eq (v : SourceView) : v.loadPoint = match v with | .settled lp => lp | _ => 0 := by
  cases v <;> rfl

theorem State.statusPayload_carried (s : State) : s.statusCarried s.statusPayload := by
  obtain ⟨marker, power, link, run, stage, verdict, _⟩ := fieldsRead_fieldWord
    [(4, 1), (2, s.power.state.code), (2, s.line.link.code), (4, s.coord.run.code), (2, s.coord.stage.code),
      (2, runVerdictCode s.coord.verdict)] (Nat.le_refl 16)
  obtain ⟨length, first, last, overrun, _⟩ := fieldsRead_fieldWord
    [(5, s.plan.length), (5, s.plan.windowFirst), (5, s.plan.windowLast), (1, bitOf s.plan.overrun)] (Nat.le_refl 16)
  obtain ⟨cursor, refused, inHand, step, restarts, holds, _⟩ := fieldsRead_fieldWord
    [(5, s.plan.cursor), (1, bitOf s.plan.refused), (1, if s.coord.step = none then 0 else 1),
      (4, match s.coord.step with | some k => k.val | none => 0), (2, s.coord.restarts), (3, s.coord.holds)]
    (Nat.le_refl 16)
  obtain ⟨source, loadPoint, rest, _⟩ := fieldsRead_fieldWord
    [(2, s.coord.source.code), (8, match s.coord.source with | .settled lp => lp | _ => 0), (6, 0)] (Nat.le_refl 16)
  rw [State.statusPayload, stepInHandFields_eq, SourceView.loadPoint_eq]
  exact ⟨marker, power, link, run, stage, verdict, word_whole _, length, first, last, overrun, cursor, refused, inHand,
    step, restarts, holds, source, loadPoint, rest⟩

/-! ## RESULT (R167) -/

/-- R173: the kind code of a slot and what the two value positions hold. -/
theorem slotValues_eq (slot : Option StepRecord) (x : ResultValues) :
    match (slot.map fun r => r.body : Option StepBody) with
    | none => slotKindCode slot = 0 ∧ firstValue slot x = none ∧ secondValue slot x = none
    | some (.error _) => slotKindCode slot = 1 ∧ firstValue slot x = x.n ∧ secondValue slot x = x.r
    | some (.creep _) => slotKindCode slot = 2 ∧ firstValue slot x = x.count ∧ secondValue slot x = x.elapsed
    | some (.start _) => slotKindCode slot = 3 ∧ firstValue slot x = x.count ∧ secondValue slot x = x.elapsed
    | some .unknown => slotKindCode slot = 4 ∧ firstValue slot x = none ∧ secondValue slot x = none := by
  cases slot with
  | none => exact ⟨rfl, rfl, rfl⟩
  | some r =>
    simp only [slotKindCode, firstValue, secondValue, Option.map_some]
    cases r.body <;> exact ⟨rfl, rfl, rfl⟩

theorem resultWords_carried (n : BitVec 5) (slot : Option StepRecord) (r : ResultRecord) :
    resultCarried n.toNat slot r (resultWords n slot r) := by
  obtain ⟨marker, number, kind, attempt, _⟩ := fieldsRead_fieldWord
    [(4, 2), (5, n.toNat), (3, slotKindCode slot), (4, r.attempt)] (Nat.le_refl 16)
  obtain ⟨verdict, mark, quiet, clamped, first, second, error, period, rest, _⟩ := fieldsRead_fieldWord
    [(3, verdictNumber r.verdict), (2, r.mark.code), (1, bitOf r.quiet), (1, bitOf r.values.clamped),
      (1, if firstValue slot r.values = none then 0 else 1), (1, if secondValue slot r.values = none then 0 else 1),
      (1, if r.values.error = none then 0 else 1), (1, if r.values.lastPeriod = none then 0 else 1), (5, 0)]
    (Nat.le_refl 16)
  refine ⟨slotKindCode slot, firstValue slot r.values, secondValue slot r.values, slotValues_eq slot r.values, ?_⟩
  rw [resultWords, verdictCode_toNat, bitOf_isSome, bitOf_isSome, bitOf_isSome, bitOf_isSome]
  exact ⟨marker, number, kind, attempt, verdict, mark, quiet, clamped, first, second, error, period, rest,
    ofNat_whole _, splitWords_wide _, wordsOf32_wide _, splitWords_wide _⟩

theorem State.resultPayload_slot (s : State) (n : BitVec 5) (k : StepIx) (h : n.toNat = stepNumber k) :
    s.resultPayload n = resultWords n (s.slot k) (s.result k) := by
  have hn : n.toNat = k.val + 1 := h
  have hk : k.val + 1 ≤ 16 := k.isLt
  have hix : ∀ hlt, (⟨n.toNat - 1, hlt⟩ : StepIx) = k := fun _ => Fin.ext (show n.toNat - 1 = k.val by omega)
  rw [State.resultPayload, dif_pos ⟨by omega, by omega⟩]
  simp only [hix]

theorem State.resultPayload_noSlot (s : State) (n : BitVec 5) (h : n.toNat = 0 ∨ 17 ≤ n.toNat) :
    s.resultPayload n = resultWords n none ResultRecord.blank :=
  dif_neg (by omega)

/-! ## CLOSURE (R168) -/

theorem listVerdictCode_eq (steps : List Verdict) (i : Nat) :
    listVerdictCode steps i = (steps[i]?.map verdictNumber).getD 0 := by
  rw [listVerdictCode]
  cases steps[i]? with
  | none => rfl
  | some v => exact verdictCode_toNat v

/-- R173: five verdicts from bit 15 on, and bit 0. -/
theorem verdictWord_read (steps : List Verdict) (i : Nat) :
    FieldsRead (verdictWord steps i)
      [(3, listVerdictCode steps i), (3, listVerdictCode steps (i + 1)), (3, listVerdictCode steps (i + 2)),
        (3, listVerdictCode steps (i + 3)), (3, listVerdictCode steps (i + 4)), (1, 0)] :=
  fieldsRead_fieldWord _ (Nat.le_refl 16)

theorem verdictWord_field (steps : List Verdict) (i m : Nat) (h : m < 5) :
    (verdictWord steps i).toNat / 2 ^ (13 - 3 * m) % 2 ^ 3 = (steps[i + m]?.map verdictNumber).getD 0 % 2 ^ 3 := by
  obtain ⟨v0, v1, v2, v3, v4, _⟩ := verdictWord_read steps i
  rw [← listVerdictCode_eq]
  match m, h with
  | 0, _ => exact v0
  | 1, _ => exact v1
  | 2, _ => exact v2
  | 3, _ => exact v3
  | 4, _ => exact v4

theorem verdictWord_rest (steps : List Verdict) (i : Nat) :
    (verdictWord steps i).toNat / 2 ^ 0 % 2 ^ 1 = 0 % 2 ^ 1 := by
  obtain ⟨_, _, _, _, _, rest, _⟩ := verdictWord_read steps i
  exact rest

/-- R173: words 3 to 5 hold five verdicts each. -/
theorem closureWords_verdictWord (r : ClosureRecord) (j : Nat) (h : j < 3) :
    (closureWords r).getD (3 + j - 1) 0 = verdictWord r.steps (5 * j) := by
  match j, h with
  | 0, _ => rfl
  | 1, _ => rfl
  | 2, _ => rfl

theorem closureWords_verdict (r : ClosureRecord) (i : Nat) (h : i < 15) :
    carries (closureWords r) (3 + i / 5) (15 - 3 * (i % 5)) (13 - 3 * (i % 5))
      ((r.steps[i]?.map verdictNumber).getD 0) := by
  have hm : i % 5 < 5 := Nat.mod_lt _ (by decide)
  have hwidth : 15 - 3 * (i % 5) + 1 - (13 - 3 * (i % 5)) = 3 := by omega
  rw [carries, hwidth, closureWords_verdictWord r (i / 5) (by omega), verdictWord_field r.steps _ _ hm, Nat.div_add_mod]

theorem closureWords_carried (r : ClosureRecord) : closureCarried r (closureWords r) := by
  obtain ⟨marker, built, position, verdict, press, caln, rest, _⟩ := fieldsRead_fieldWord
    [(4, 3), (1, 1), (5, r.position.toNat), (1, if r.verdict = .pass then 1 else 0), (2, r.press.code),
      (1, if r.caln = .released then 1 else 0), (2, 0)] (Nat.le_refl 16)
  obtain ⟨last, holds, rest6, _⟩ := fieldsRead_fieldWord
    [(3, (r.steps[15]?.map verdictNumber).getD 0), (9, r.holds), (4, 0)] (Nat.le_refl 16)
  obtain ⟨length, restarts, rest7, _⟩ := fieldsRead_fieldWord [(5, r.steps.length), (6, r.restarts), (5, 0)]
    (Nat.le_refl 16)
  have verdicts := closureWords_verdict r
  rw [closureWords, bitOf_beq, bitOf_beq, listVerdictCode_eq] at verdicts ⊢
  exact ⟨marker, built, position, verdict, press, caln, rest, word_whole _, verdicts, verdictWord_rest _ _,
    verdictWord_rest _ _, verdictWord_rest _ _, last, holds, rest6, length, restarts, rest7⟩

/-! ## SELFTEST (R169) -/

theorem selfTestWords_carried (r : SelfTestRecord) (now : Nat) : selfTestCarried r now (selfTestWords r now) := by
  have hperiods : bitOf (r.smallest.isSome && r.largest.isSome) =
      if r.smallest = none ∨ r.largest = none then 0 else 1 := by
    cases r.smallest <;> cases r.largest <;> rfl
  obtain ⟨marker, held, passed, periods, seen, count, _⟩ := fieldsRead_fieldWord
    [(4, 4), (1, 1), (1, bitOf r.passed), (1, if r.smallest = none ∨ r.largest = none then 0 else 1),
      (1, bitOf r.refSeen), (8, r.count)] (Nat.le_refl 16)
  rw [selfTestWords, hperiods]
  exact ⟨marker, held, passed, periods, seen, count, splitWords_wide _, splitWords_wide _, ofNat_whole _⟩

/-! ## ROSTER (R170) -/

/-- Fields of one width. -/
theorem fieldsWidth_map (l : List Nat) (w : Nat) (f : Nat → Nat) :
    fieldsWidth (l.map fun i => (w, f i)) = w * l.length := by
  simp [fieldsWidth, Function.comp_def, Nat.mul_comm]

/-- R173: the codes of so many positions, from one position on in ascending order. -/
def codeFields (roster : List Member) (first count : Nat) : List (Nat × Nat) :=
  (List.range count).map fun i => (6, positionCode roster (BitVec.ofNat 5 (first + i)))

@[simp] theorem codeFields_width (roster : List Member) (first count : Nat) :
    fieldsWidth (codeFields roster first count) = 6 * count := by
  rw [codeFields, fieldsWidth_map, List.length_range]

theorem codeFields_split (roster : List Member) (first a b : Nat) :
    codeFields roster first (a + (b + 1)) =
      codeFields roster first a ++
        (6, positionCode roster (BitVec.ofNat 5 (first + a))) :: codeFields roster (first + a + 1) b := by
  simp only [codeFields, List.range_add, List.range_succ_eq_map, List.map_append, List.map_map, List.map_cons,
    Function.comp_def, Nat.add_zero]
  congr 3
  funext i
  congr 3
  omega

/-- R170, R173: the fields of a ROSTER form: marker, condition, the codes of positions 1 to 30, and six bits of zero. -/
def State.rosterFields (s : State) : List (Nat × Nat) :=
  (4, 5) :: (2, s.coord.rosterCondition) :: (codeFields s.coord.roster 1 30 ++ [(6, 0)])

theorem Coordinator.rosterCondition_eq (c : Coordinator) :
    c.rosterCondition =
      if c.roster = [] then 0
      else if c.stage ≠ .none ∨ c.run = .enrolled ∨ c.run = .gathering ∨ c.run = .measuring
          ∨ c.run = .reported ∨ c.run = .suspended then 1
      else 2 := by
  simp only [Coordinator.rosterCondition, c.live_iff, RunState.stepping_iff]

theorem Coordinator.rosterCondition_lt (c : Coordinator) : c.rosterCondition < 4 := by
  rw [Coordinator.rosterCondition]
  split
  · decide
  · split <;> decide

/-- The number of a ROSTER form, written in the model with the codes above six bits of zero. -/
theorem State.packFields_rosterFields (s : State) :
    packFields s.rosterFields = ((5 * 4 + s.coord.rosterCondition) * 2 ^ 180 + rosterCodes s.coord.roster) * 2 ^ 6 := by
  have hcond : s.coord.rosterCondition % 2 ^ 2 = s.coord.rosterCondition := Nat.mod_eq_of_lt s.coord.rosterCondition_lt
  have hcodes : rosterCodes s.coord.roster = packFields (codeFields s.coord.roster 1 30) := by
    simp only [rosterCodes, codeFields, Nat.add_comm]
  have hmarker : 5 % 2 ^ 4 = 5 := rfl
  have hzero : packFields [(6, 0)] = 0 := rfl
  have hsix : fieldsWidth [(6, 0)] = 6 := rfl
  rw [State.rosterFields, packFields_cons, packFields_cons, packFields_append, fieldsWidth_cons, fieldsWidth_append,
    codeFields_width, hsix, hcodes, hzero, hcond, hmarker]
  ring

theorem State.rosterPayload_eq (s : State) : s.rosterPayload = splitWords 12 (packFields s.rosterFields) := by
  rw [s.packFields_rosterFields, State.rosterPayload]

/-- R170: a position that the roster does not list. -/
theorem positionCode_unlisted (roster : List Member) (p : Position) (h : ∀ m ∈ roster, m.position ≠ p) :
    positionCode roster p = 0 := by
  have hf : roster.find? (fun m => m.position == p) = none := List.find?_eq_none.2 fun m hm => by simpa using h m hm
  rw [positionCode, hf]

/-- R173: the code of a listed position, by the values of its standing and its phase. -/
theorem memberCode_eq (m : Member) : memberCode m = 1 + 10 * m.standing.value + m.phase.value := by
  refine congrArg₂ (fun standing phase => 1 + 10 * standing + phase) ?_ ?_
  · cases m.standing with
    | active => rfl
    | struck r => cases r <;> rfl
  · cases m.phase with
    | waiting => rfl
    | ready => rfl
    | reported v => exact congrArg (2 + ·) (verdictCode_toNat v).symm

/-- R173: a position that the roster lists. -/
theorem positionCode_listed (roster : List Member) (p : Position) (m : Member)
    (h : roster.find? (fun x => x.position == p) = some m) : positionCode roster p = memberCode m := by
  rw [positionCode, h, memberCode_eq]

theorem Standing.value_le (x : Standing) : x.value ≤ 5 := by
  cases x with
  | active => decide
  | struck r => cases r <;> decide

theorem Phase.value_le (x : Phase) : x.value ≤ 9 := by
  cases x with
  | waiting => decide
  | ready => decide
  | reported v => cases v <;> decide

/-- R173: the code of a listed position takes six bits. -/
theorem memberCode_lt (m : Member) : memberCode m < 64 := by
  have hs := m.standing.value_le
  have hp := m.phase.value_le
  rw [memberCode_eq]
  omega

/-- R173: the six bits of a position. -/
theorem State.rosterPayload_position (s : State) (p : Position) (h1 : 1 ≤ p.toNat) (h30 : p.toNat ≤ 30) :
    payloadNumber s.rosterPayload / 2 ^ (186 - 6 * p.toNat) % 64 = positionCode s.coord.roster p % 64 := by
  obtain ⟨a, ha⟩ : ∃ a, p.toNat = 1 + a := ⟨p.toNat - 1, by omega⟩
  obtain ⟨b, hb⟩ : ∃ b, 30 = a + (b + 1) := ⟨29 - a, by omega⟩
  have hp : BitVec.ofNat 5 (1 + a) = p := by rw [← ha, BitVec.ofNat_toNat, BitVec.setWidth_eq]
  have hwidth : fieldsWidth s.rosterFields = 16 * 12 := by
    simp [State.rosterFields]
  have hafter : fieldsWidth (codeFields s.coord.roster (1 + a + 1) b ++ [(6, 0)]) = 186 - 6 * p.toNat := by
    simp only [fieldsWidth_append, fieldsWidth_cons, fieldsWidth_nil, codeFields_width]
    omega
  have hsplit : s.rosterFields =
      ((4, 5) :: (2, s.coord.rosterCondition) :: codeFields s.coord.roster 1 a) ++
        (6, positionCode s.coord.roster p) :: (codeFields s.coord.roster (1 + a + 1) b ++ [(6, 0)]) := by
    rw [State.rosterFields, hb, codeFields_split, hp]
    simp
  rw [s.rosterPayload_eq, payloadNumber_splitWords, ← hwidth, Nat.mod_eq_of_lt (packFields_lt _), hsplit, ← hafter]
  exact packFields_field _ _ 6 _

theorem State.rosterPayload_carried (s : State) : s.rosterCarried s.rosterPayload := by
  have marker : carries s.rosterPayload 1 15 12 5 := by
    rw [s.rosterPayload_eq]
    exact splitWords_carries [] _ 12 1 15 12 5 (by decide) (by decide) (by decide) (by decide) (by simp)
  have condition : carries s.rosterPayload 1 11 10 s.coord.rosterCondition := by
    rw [s.rosterPayload_eq]
    exact splitWords_carries [(4, 5)] _ 12 1 11 10 _ (by decide) (by decide) (by decide) (by decide) (by simp)
  have rest : carries s.rosterPayload 12 5 0 0 := by
    rw [s.rosterPayload_eq]
    exact splitWords_carries ((4, 5) :: (2, s.coord.rosterCondition) :: codeFields s.coord.roster 1 30) [] 12 12 5 0 0
      (by decide) (by decide) (by decide) (by decide) (by simp)
  refine ⟨marker, s.coord.rosterCondition_eq ▸ condition, fun p h1 h30 => ⟨fun hno => ?_, fun m hm => ?_⟩, rest⟩
  · rw [s.rosterPayload_position p h1 h30, positionCode_unlisted _ p hno]
  · rw [s.rosterPayload_position p h1 h30, positionCode_listed _ p m hm, Nat.mod_eq_of_lt (memberCode_lt m)]

/-! ## Every REPLY (R82, R163, R164, R173) -/

theorem State.replyPayload_length (s : State) (x : ReplyRequest) :
    (s.replyPayload x).length = x.kind.payloadLength := by
  obtain ⟨kind, slot⟩ := x
  cases kind with
  | status => rfl
  | result =>
    show (s.resultPayload slot).length = 9
    rw [State.resultPayload]
    split <;> rfl
  | closure =>
    show s.closurePayload.length = 7
    rw [State.closurePayload]
    split <;> rfl
  | selftest =>
    show s.selfTestPayload.length = 6
    rw [State.selfTestPayload]
    split <;> rfl
  | roster =>
    show s.rosterPayload.length = 12
    rw [State.rosterPayload, splitWords_length]

/-- R173: the four highest bits of the first word name the record kind. -/
theorem State.replyPayload_kind (s : State) (x : ReplyRequest) :
    carries (s.replyPayload x) 1 15 12 (RecordKind.code x.kind).toNat := by
  obtain ⟨kind, slot⟩ := x
  cases kind with
  | status => exact s.statusPayload_carried.1
  | result =>
    have hwords : ∃ record r, s.resultPayload slot = resultWords slot record r := by
      rw [State.resultPayload]
      split <;> exact ⟨_, _, rfl⟩
    obtain ⟨record, r, hr⟩ := hwords
    obtain ⟨_, _, _, _, marker, _⟩ := resultWords_carried slot record r
    show carries (s.resultPayload slot) 1 15 12 2
    rwa [hr]
  | closure =>
    show carries s.closurePayload 1 15 12 3
    rw [State.closurePayload]
    split
    · exact (closureWords_carried _).1
    · decide
  | selftest =>
    show carries s.selfTestPayload 1 15 12 4
    rw [State.selfTestPayload]
    split
    · exact (selfTestWords_carried _ _).1
    · decide
  | roster => exact s.rosterPayload_carried.1

/-- R82, R173: a payload that names a record kind and has the length fixed for it fits a REPLY. -/
theorem lengthFits_reply (payload : List Word) (kind : RecordKind) (hl : payload.length = kind.payloadLength)
    (hk : carries payload 1 15 12 (RecordKind.code kind).toNat) : lengthFits .reply payload = true := by
  cases payload with
  | nil => cases kind <;> exact absurd hl (by decide)
  | cons w rest =>
    have hcode : w.extractLsb' 12 4 = RecordKind.code kind := by
      apply BitVec.eq_of_toNat_eq
      rw [BitVec.extractLsb'_toNat, Nat.shiftRight_eq_div_pow]
      exact hk.trans (Nat.mod_eq_of_lt (RecordKind.code kind).isLt)
    simp [lengthFits, hcode, recordOfCode_code, hl]

theorem State.replyPayload_wellFormed (s : State) (x : ReplyRequest) (p : Position) (h1 : 1 ≤ p.toNat)
    (h30 : p.toNat ≤ 30) : wellFormedFrame ((StationFrame.reply (s.replyPayload x)).words p) = true := by
  have hp : isStationPosition p = true := by
    rw [isStationPosition_iff]
    exact ⟨by rintro rfl; exact absurd h1 (by decide), by rintro rfl; exact absurd h30 (by decide)⟩
  have hcontent := lengthFits_reply _ x.kind (s.replyPayload_length x) (s.replyPayload_kind x)
  exact (stationFrame_fits (.reply (s.replyPayload x)) p (Bool.and_eq_true_iff.2 ⟨hp, hcontent⟩)).wellFormed

end Sys2Proof.Machine

open Sys2Proof Sys2Proof.Machine

/-- Settles O57: length and form of every REPLY, and what each form carries. -/
theorem replyFormsAreWellFormed : Obligations.ReplyFormsAreWellFormed := by
  unfold Obligations.ReplyFormsAreWellFormed
  refine ⟨fun s x p h1 h30 => ⟨?_, s.replyPayload_wellFormed x p h1 h30⟩, fun s slot payload h => ?_⟩
  · rw [s.replyPayload_length x]
    rfl
  · obtain rfl : payload = fun kind => s.replyPayload { kind := kind, slot := slot } := funext h
    refine ⟨s.statusPayload_carried, fun k hk => ?_, fun hno => ?_, fun hr => ?_, fun r hr => ?_, fun hr => ?_,
      fun r hr => ?_, s.rosterPayload_carried⟩
    · show resultCarried slot.toNat (s.slot k) (s.result k) (s.resultPayload slot)
      rw [s.resultPayload_slot slot k hk]
      exact resultWords_carried slot (s.slot k) (s.result k)
    · show resultCarried slot.toNat none ResultRecord.blank (s.resultPayload slot)
      rw [s.resultPayload_noSlot slot hno]
      exact resultWords_carried slot none ResultRecord.blank
    · show s.closurePayload = _
      rw [State.closurePayload, hr]
      rfl
    · show closureCarried r s.closurePayload
      rw [State.closurePayload, hr]
      exact closureWords_carried r
    · show s.selfTestPayload = _
      rw [State.selfTestPayload, hr]
      rfl
    · show selfTestCarried r s.now s.selfTestPayload
      rw [State.selfTestPayload, hr]
      exact selfTestWords_carried r s.now

end

section
/-! The queue of commands: no operation and no way of delivery touches it, an unarmed local event changes nothing, and a
step runs the front command (O1, O3, O5). -/

namespace Sys2Proof.Machine

/-- The queue of commands after an operation is the one before it. -/
def KeepsQueue (f : State → State) : Prop := ∀ u, (f u).pending = u.pending

/-- The outcome of a command on `s` is a next state with the queue of `s`. -/
def State.AnswersKeepingQueue (s : State) (o : Host.Outcome State Fault Refusal) : Prop :=
  ∃ t, o = .next t ∧ t.pending = s.pending

/-! ## The taking of frames -/

theorem KeepsQueue.passFrame {f : State → State} (hf : KeepsQueue f) (groups : List Group) :
    KeepsQueue fun t => t.passFrame groups f := by
  intro t
  dsimp only [State.passFrame]
  split
  · simp
  · split
    · simp
    · simp [hf t.frameEnds]

theorem KeepsQueue.takeConsole {f : State → State} (hf : KeepsQueue f) (words : List Word) (sel : Selector) :
    KeepsQueue fun t => t.takeConsole words sel f := by
  have hact : KeepsQueue fun t => if sel.covers t.line.strap then f t else t := by
    intro t
    dsimp only
    split
    · exact hf t
    · rfl
  exact hact.passFrame (groupsOf words)

theorem KeepsQueue.takeSelective {f g : State → State} (hf : KeepsQueue f) (hg : KeepsQueue g) (words : List Word)
    (sel : Selector) : KeepsQueue fun t => t.takeSelective words sel f g := by
  have hact : KeepsQueue fun t => if sel.covers t.line.strap then f t else g t := by
    intro t
    dsimp only
    split
    · exact hf t
    · exact hg t
  exact hact.passFrame (groupsOf words)

theorem KeepsQueue.deliver {act : State → State} (hact : KeepsQueue act) (source : Position) (f : StationFrame) :
    KeepsQueue fun t => t.deliver source f act := by
  intro t
  dsimp only [State.deliver]
  split
  · split
    · simp [hact (t.ownTaken f)]
    · simp
  · split
    · exact hact t
    · rfl

theorem KeepsQueue.takeStation {act : State → State} (hact : KeepsQueue act) (source : Position) (f : StationFrame) :
    KeepsQueue fun t => t.takeStation source f act :=
  (hact.deliver source f).passFrame (groupsOf (f.words source))

theorem KeepsQueue.missFrame (groups : List Group) : KeepsQueue fun t => t.missFrame groups := by
  intro t
  dsimp only [State.missFrame]
  split
  · rfl
  · exact KeepsQueue.passFrame (f := id) (fun _ => rfl) groups t

theorem KeepsQueue.ignoreFrame (groups : List Group) : KeepsQueue fun t => t.ignoreFrame groups := by
  refine KeepsQueue.passFrame (fun t => ?_) groups
  split
  · simp
  · rfl

theorem KeepsQueue.takeMalformed (groups : List Group) : KeepsQueue fun t => t.takeMalformed groups := by
  intro t
  dsimp only [State.takeMalformed]
  split
  · exact KeepsQueue.missFrame groups t
  · split
    · rfl
    · exact KeepsQueue.ignoreFrame groups t

/-! ## The resets -/

@[simp] theorem State.resetRunHere_pending (s : State) : s.resetRunHere.pending = s.pending := rfl

/-- R161: a start leaves the commands that wait. -/
theorem State.start_pending (s : State) (straps : Position) (clamp : ClampLevel) (mtp : Level) (plan : PlanStore)
    (run : RunState) : (s.start straps clamp mtp plan run).pending = s.pending := by
  rw [s.start_eq]
  rfl

/-! ## How a command is answered -/

theorem State.atEvent_keepsQueue (s : State) (after : Nat) {f : State → State} (hf : KeepsQueue f) :
    s.AnswersKeepingQueue (s.atEvent after f) := by
  refine ⟨_, rfl, ?_⟩
  split
  · rfl
  · rw [hf, (s.elapse_keeps after).2]

theorem State.atDue_pending (s : State) (e : LocalEvent) : (s.atDue e).pending = s.pending := by
  unfold State.atDue
  split
  · rfl
  · rename_i d _
    have hpass := (State.passTo_keeps Config.eventFuel (max s.now d) s).2
    dsimp only
    split
    · rw [(State.fire_keeps _ e).2.2.2, hpass]
    · exact hpass

theorem State.atLocal_keepsQueue (s : State) (e : LocalEvent) : s.AnswersKeepingQueue (s.atLocal e) := by
  refine ⟨_, rfl, ?_⟩
  split
  · rfl
  · exact s.atDue_pending e

/-- Every command answers with a next state and keeps the queue, by the way in which it reaches the station: at once (the
two resets), at a due instant, or after a time, as an event or as one of the four forms of frame. -/
theorem exec_keepsQueue (c : Instr) (s : State) : s.AnswersKeepingQueue (exec c s) := by
  unfold exec
  cases c with
  | powerOn straps clamp mtp | pinReset straps clamp mtp => exact ⟨_, rfl, s.start_pending straps clamp mtp _ _⟩
  | pulseAccepted | filterRearm | referenceWaitExpiry | gatherTimerExpiry | stepDeadlineExpiry | musterWindowExpiry
  | durationEnd | pressDwellEnd | parkedDwellEnd | loopBurstStart | loopBurstEnd | wakingEnd =>
    exact s.atLocal_keepsQueue _
  | joiningEnd after | mtpActiveChange after | mtpInactiveChange after | referenceEdge after | clampClosing after
  | clampOpening after | attemptStart after start groups | frameAborted after groups | rstnHeldLow after =>
    exact s.atEvent_keepsQueue after fun u => by simp
  | malformedFrame after groups => exact s.atEvent_keepsQueue after (.takeMalformed groups)
  | plan after sel payload | step after sel payload | muster after sel plan count | run after sel plan first
  | close after sel | release after sel | queryStatus after sel | queryResult after sel slot | queryClosure after sel
  | querySelftest after sel | queryRoster after sel =>
    exact s.atEvent_keepsQueue after (.takeConsole (fun u => by simp) _ sel)
  | halt after sel | resetRun after sel | resetAll after sel =>
    exact s.atEvent_keepsQueue after (.takeSelective (fun u => by simp) (fun u => by simp) _ sel)
  | settled after loadPoint | disturbed after =>
    exact s.atEvent_keepsQueue after (.passFrame (fun u => by simp) _)
  | present after source plan | ready after source k | hold after source k | done after source k verdict attempt error
  | lapseGather after source k | lapseMeasure after source k | parked after source reason
  | reply after source payload =>
    exact s.atEvent_keepsQueue after (.takeStation (fun u => by simp) source _)

/-! ## A local event that is not to come (log 2) -/

theorem State.atDue_unarmed (s : State) (e : LocalEvent) (h : s.due e = none) : s.atDue e = s := by
  simp [State.atDue, h]

/-- The row of a local event that is not to come has no effect, be RSTN held low or not. -/
theorem exec_command_unarmed (e : LocalEvent) (s : State) (h : s.due e = none) : exec e.command s = .next s := by
  rw [exec_command, State.atLocal, s.atDue_unarmed e h, ite_self]

end Sys2Proof.Machine

open Sys2Proof Sys2Proof.Machine

/-- Settles O3, by the way in which the command reaches the station. -/
theorem everyCommandAnswersAndKeepsQueue : Obligations.EveryCommandAnswersAndKeepsQueue := by
  unfold Obligations.EveryCommandAnswersAndKeepsQueue
  exact exec_keepsQueue

/-- Settles O1: the queue begins with the command, so the step is its meaning on the state with the queue's rest. -/
theorem stepRunsFrontCommand : Obligations.StepRunsFrontCommand := by
  unfold Obligations.StepRunsFrontCommand
  intro c rest s hq
  simp only [step, hq, State.withPending]

/-- Settles O5: each of the twelve rows is the row of its local event. -/
theorem unarmedLocalEventChangesNothing : Obligations.UnarmedLocalEventChangesNothing := by
  unfold Obligations.UnarmedLocalEventChangesNothing
  intro s
  have hrow := fun e => exec_command_unarmed e s
  exact ⟨hrow .pulseAccepted, hrow .filterRearm, hrow .referenceWaitExpiry, hrow .gatherTimerExpiry,
    hrow .stepDeadlineExpiry, hrow .musterWindowExpiry, hrow .durationEnd, hrow .pressDwellEnd, hrow .parkedDwellEnd,
    hrow .loopBurstStart, hrow .loopBurstEnd, hrow .wakingEnd⟩

end
